-- ==== Sys2Proof/Word.lean ====
section
/-! DEFINITION. The word types of the core (R10, R12): `u8`, `u16` and the 64-bit counter. -/

namespace Sys2Proof

/-- `u8`: a register, a memory byte, an opcode (R10, R12). Arithmetic is modulo 256. -/
abbrev Byte := BitVec 8

/-- `u16`: SP, PC, a register pair, an address (R10, R12). Arithmetic is modulo 65536. -/
abbrev Word := BitVec 16

/-- `u64`: the machine-cycle counter (R33). It wraps modulo 2^64 (decision D12). -/
abbrev Counter := BitVec 64

end Sys2Proof
end

