-- ==== Sys2Proof/Machine/Bits.lean ====
section
/-! DEFINITION. Bytes and words: joining, halves, extensions, and the high-RAM address. -/

namespace Sys2Proof.Machine

/-- `hi ++ lo` of R12: the 16-bit value `(hi << 8) | lo`. -/
def join (hi lo : Byte) : Word := hi ++ lo

/-- `v[15:8]` (R11). -/
def hiByte (v : Word) : Byte := v.extractLsb' 8 8

/-- `v[7:0]` (R11). -/
def loByte (v : Word) : Byte := v.extractLsb' 0 8

/-- `v[3:0]` read as an unsigned number (R11). -/
def lowNibble (v : Byte) : Nat := v.toNat % 16

/-- `zext_16` of R12. -/
def zext16 (v : Byte) : Word := v.setWidth 16

/-- `sext_16` of R12: the byte read as two's complement. -/
def sext16 (v : Byte) : Word := v.signExtend 16

/-- `hram(o) = 0xFF00 | zext_16(o)` (R92, R111; conflict C2). -/
def hram (o : Byte) : Word := 0xFF00#16 ||| zext16 o

end Sys2Proof.Machine
end

