-- ==== Sys2Proof/Machine/Flags.lean ====
section
/-! DEFINITION. The flag register's fields (R25, R28) and every flag computation of the spec: addition and subtraction (R191 to
R194) and `LD HL,SP+e` (R171). Flags come from the exact integers, before truncation (R210). -/

namespace Sys2Proof.Machine

/-- The four flags (R25). -/
inductive Flag where
  | z | n | h | c
deriving DecidableEq, Repr

/-- The bit of F a flag stands at (R25). -/
def Flag.bit : Flag → Nat
  | .z => 7 | .n => 6 | .h => 5 | .c => 4

/-- A flag read from F (R25). -/
def readFlag (f : Byte) (x : Flag) : Bool := f.getLsbD x.bit

/-- One flag written into F, the other bits kept (R28). -/
def writeFlag (f : Byte) (x : Flag) (v : Bool) : Byte :=
  if v then f ||| (1#8 <<< x.bit) else f &&& ~~~(1#8 <<< x.bit)

/-- The field F[7:4] (R28; conflict C3). -/
def readFlagField (f : Byte) : BitVec 4 := f.extractLsb' 4 4

/-- The field F[7:4] written, F[3:0] kept (R28; conflict C3). -/
def writeFlagField (f : Byte) (v : BitVec 4) : Byte := v ++ f.extractLsb' 0 4

/-- What is kept of a value written to F: bits 3 to 0 are masked out (R26). -/
def maskF (v : Byte) : Byte := v &&& 0xF0#8

/-- The four flags an instruction writes together (R13). -/
structure Flags where
  z : Bool
  n : Bool
  h : Bool
  c : Bool
deriving DecidableEq, Repr

/-- The byte of F with these flags and zeros in bits 3 to 0 (R25). -/
def Flags.toByte (fl : Flags) : Byte :=
  BitVec.ofBool fl.z ++ BitVec.ofBool fl.n ++ BitVec.ofBool fl.h ++ BitVec.ofBool fl.c ++ 0#4

/-- A result byte and the flags that go with it. -/
structure AluResult where
  result : Byte
  flags : Flags
deriving DecidableEq, Repr

/-- Addition with a carry-in (0 for ADD): result `t mod 256` of `t = a + b + c` (R195, R198, R210) and its flags
(R191 to R194). -/
def aluAdd (a b : Byte) (cin : Bool) : AluResult :=
  let c := cin.toNat
  let t := a.toNat + b.toNat + c
  { result := BitVec.ofNat 8 t
    flags :=
      { z := BitVec.ofNat 8 t == 0#8
        n := false
        h := decide (lowNibble a + lowNibble b + c > 0xF)
        c := decide (t > 0xFF) } }

/-- Subtraction with a borrow-in (0 for SUB and CP): result `t mod 256` of `t = a - b - c` (R201, R204, R210) and its flags
(R191 to R194), H and C being borrows (R193, R194; D7). -/
def aluSub (a b : Byte) (cin : Bool) : AluResult :=
  let c := cin.toNat
  let t : Int := (a.toNat : Int) - (b.toNat : Int) - (c : Int)
  { result := BitVec.ofInt 8 t
    flags :=
      { z := BitVec.ofInt 8 t == 0#8
        n := true
        h := decide (lowNibble a < lowNibble b + c)
        c := decide (a.toNat < b.toNat + c) } }

/-- The flags of `LD HL,SP+e` (R171; D8): Z and N are 0, H and C come from the low byte of SP and `e` as unsigned bytes. -/
def spOffsetFlags (sp : Word) (e : Byte) : Flags where
  z := false
  n := false
  h := decide (lowNibble (loByte sp) + lowNibble e > 0xF)
  c := decide ((loByte sp).toNat + e.toNat > 0xFF)

end Sys2Proof.Machine
end

