-- ==== Sys2Proof/Syntax.lean ====
section
/-! DEFINITION. The instructions: one constructor for each of the 145 mnemonics of spec/opcode_table.json (R86: 144 defined
entries; R87: the empty entries, under INVALID), and the operand names they are grouped by.
A constructor is its mnemonic in lower case, operand by operand: `m` before an operand is a memory operand
(`ld_a_mbc` is `LD A,(BC)`), `hli` and `hld` are `HL+` and `HL-`, `spe` is `SP+e`. -/

namespace Sys2Proof

/-- The 8-bit registers a 3-bit field can name (R83); index 6 is memory at HL and no register, and no index names F. -/
inductive Reg8 where
  | b | c | d | e | h | l | a
deriving DecidableEq, Repr

/-- The 16-bit registers and pairs of `x[rr]` (R13). -/
inductive Pair where
  | af | bc | de | hl | sp
deriving DecidableEq, Repr

/-- Field `dd` of `LD rr,nn` (R83). -/
inductive RegDD where
  | bc | de | hl | sp
deriving DecidableEq, Repr

/-- Field `qq` of `PUSH` and `POP` (R83). -/
inductive RegQQ where
  | bc | de | hl | af
deriving DecidableEq, Repr

/-- Field `ooo` of the ALU forms (R83); the values 4, 5 and 6 are outside the subset. -/
inductive AluOp where
  | add | adc | sub | sbc | cp
deriving DecidableEq, Repr

/-- The instruction forms: the formats of R85 with their operands, the FIXED ones one by one. `Instr.form`
(Machine/Forms.lean) gives each instruction's. -/
inductive Form where
  | ldRR (dst src : Reg8)               -- LD r,r'      R113
  | ldRN (dst : Reg8) (n : Byte)      -- LD r,n       R114
  | ldRHL (dst : Reg8)                -- LD r,(HL)    R115
  | ldHLR (src : Reg8)                -- LD (HL),r    R116
  | ldHLN (n : Byte)                -- LD (HL),n    R117
  | ldABC                           -- LD A,(BC)    R118
  | ldADE                           -- LD A,(DE)    R119
  | ldBCA                           -- LD (BC),A    R120
  | ldDEA                           -- LD (DE),A    R121
  | ldANN (nn : Word)               -- LD A,(nn)    R122
  | ldNNA (nn : Word)               -- LD (nn),A    R123
  | ldhAC                           -- LDH A,(C)    R124
  | ldhCA                           -- LDH (C),A    R125
  | ldhAN (n : Byte)                -- LDH A,(n)    R126
  | ldhNA (n : Byte)                -- LDH (n),A    R127
  | ldAHLI                          -- LD A,(HL+)   R128
  | ldAHLD                          -- LD A,(HL-)   R129
  | ldHLIA                          -- LD (HL+),A   R130
  | ldHLDA                          -- LD (HL-),A   R131
  | ldRRNN (p : RegDD) (nn : Word)  -- LD rr,nn     R161
  | push (p : RegQQ)                -- PUSH rr      R163
  | pop (p : RegQQ)                 -- POP rr       R165, R166
  | ldSPHL                          -- LD SP,HL     R168
  | ldHLSPE (e : Byte)              -- LD HL,SP+e   R170
  | aluR (op : AluOp) (r : Reg8)    -- op A,r       R195, R198, R201, R204, R207
  | aluHL (op : AluOp)              -- op A,(HL)    R196, R199, R202, R205, R208
  | aluN (op : AluOp) (n : Byte)    -- op A,n       R197, R200, R203, R206, R209
  | invalid (op : Byte)             -- empty entry  R231
deriving DecidableEq, Repr

/-- The instructions, in the order of the opcode map (R86). `n` and `nn` are the immediates (R91, R93), `e` the offset (R94). -/
inductive Instr where
  | ld_bc_nn (nn : Word)  -- LD BC,nn
  | ld_mbc_a  -- LD (BC),A
  | ld_b_n (n : Byte)  -- LD B,n
  | ld_a_mbc  -- LD A,(BC)
  | ld_c_n (n : Byte)  -- LD C,n
  | ld_de_nn (nn : Word)  -- LD DE,nn
  | ld_mde_a  -- LD (DE),A
  | ld_d_n (n : Byte)  -- LD D,n
  | ld_a_mde  -- LD A,(DE)
  | ld_e_n (n : Byte)  -- LD E,n
  | ld_hl_nn (nn : Word)  -- LD HL,nn
  | ld_mhli_a  -- LD (HL+),A
  | ld_h_n (n : Byte)  -- LD H,n
  | ld_a_mhli  -- LD A,(HL+)
  | ld_l_n (n : Byte)  -- LD L,n
  | ld_sp_nn (nn : Word)  -- LD SP,nn
  | ld_mhld_a  -- LD (HL-),A
  | ld_mhl_n (n : Byte)  -- LD (HL),n
  | ld_a_mhld  -- LD A,(HL-)
  | ld_a_n (n : Byte)  -- LD A,n
  | ld_b_b  -- LD B,B
  | ld_b_c  -- LD B,C
  | ld_b_d  -- LD B,D
  | ld_b_e  -- LD B,E
  | ld_b_h  -- LD B,H
  | ld_b_l  -- LD B,L
  | ld_b_mhl  -- LD B,(HL)
  | ld_b_a  -- LD B,A
  | ld_c_b  -- LD C,B
  | ld_c_c  -- LD C,C
  | ld_c_d  -- LD C,D
  | ld_c_e  -- LD C,E
  | ld_c_h  -- LD C,H
  | ld_c_l  -- LD C,L
  | ld_c_mhl  -- LD C,(HL)
  | ld_c_a  -- LD C,A
  | ld_d_b  -- LD D,B
  | ld_d_c  -- LD D,C
  | ld_d_d  -- LD D,D
  | ld_d_e  -- LD D,E
  | ld_d_h  -- LD D,H
  | ld_d_l  -- LD D,L
  | ld_d_mhl  -- LD D,(HL)
  | ld_d_a  -- LD D,A
  | ld_e_b  -- LD E,B
  | ld_e_c  -- LD E,C
  | ld_e_d  -- LD E,D
  | ld_e_e  -- LD E,E
  | ld_e_h  -- LD E,H
  | ld_e_l  -- LD E,L
  | ld_e_mhl  -- LD E,(HL)
  | ld_e_a  -- LD E,A
  | ld_h_b  -- LD H,B
  | ld_h_c  -- LD H,C
  | ld_h_d  -- LD H,D
  | ld_h_e  -- LD H,E
  | ld_h_h  -- LD H,H
  | ld_h_l  -- LD H,L
  | ld_h_mhl  -- LD H,(HL)
  | ld_h_a  -- LD H,A
  | ld_l_b  -- LD L,B
  | ld_l_c  -- LD L,C
  | ld_l_d  -- LD L,D
  | ld_l_e  -- LD L,E
  | ld_l_h  -- LD L,H
  | ld_l_l  -- LD L,L
  | ld_l_mhl  -- LD L,(HL)
  | ld_l_a  -- LD L,A
  | ld_mhl_b  -- LD (HL),B
  | ld_mhl_c  -- LD (HL),C
  | ld_mhl_d  -- LD (HL),D
  | ld_mhl_e  -- LD (HL),E
  | ld_mhl_h  -- LD (HL),H
  | ld_mhl_l  -- LD (HL),L
  | ld_mhl_a  -- LD (HL),A
  | ld_a_b  -- LD A,B
  | ld_a_c  -- LD A,C
  | ld_a_d  -- LD A,D
  | ld_a_e  -- LD A,E
  | ld_a_h  -- LD A,H
  | ld_a_l  -- LD A,L
  | ld_a_mhl  -- LD A,(HL)
  | ld_a_a  -- LD A,A
  | add_a_b  -- ADD A,B
  | add_a_c  -- ADD A,C
  | add_a_d  -- ADD A,D
  | add_a_e  -- ADD A,E
  | add_a_h  -- ADD A,H
  | add_a_l  -- ADD A,L
  | add_a_mhl  -- ADD A,(HL)
  | add_a_a  -- ADD A,A
  | adc_a_b  -- ADC A,B
  | adc_a_c  -- ADC A,C
  | adc_a_d  -- ADC A,D
  | adc_a_e  -- ADC A,E
  | adc_a_h  -- ADC A,H
  | adc_a_l  -- ADC A,L
  | adc_a_mhl  -- ADC A,(HL)
  | adc_a_a  -- ADC A,A
  | sub_a_b  -- SUB A,B
  | sub_a_c  -- SUB A,C
  | sub_a_d  -- SUB A,D
  | sub_a_e  -- SUB A,E
  | sub_a_h  -- SUB A,H
  | sub_a_l  -- SUB A,L
  | sub_a_mhl  -- SUB A,(HL)
  | sub_a_a  -- SUB A,A
  | sbc_a_b  -- SBC A,B
  | sbc_a_c  -- SBC A,C
  | sbc_a_d  -- SBC A,D
  | sbc_a_e  -- SBC A,E
  | sbc_a_h  -- SBC A,H
  | sbc_a_l  -- SBC A,L
  | sbc_a_mhl  -- SBC A,(HL)
  | sbc_a_a  -- SBC A,A
  | cp_a_b  -- CP A,B
  | cp_a_c  -- CP A,C
  | cp_a_d  -- CP A,D
  | cp_a_e  -- CP A,E
  | cp_a_h  -- CP A,H
  | cp_a_l  -- CP A,L
  | cp_a_mhl  -- CP A,(HL)
  | cp_a_a  -- CP A,A
  | pop_bc  -- POP BC
  | push_bc  -- PUSH BC
  | add_a_n (n : Byte)  -- ADD A,n
  | adc_a_n (n : Byte)  -- ADC A,n
  | pop_de  -- POP DE
  | push_de  -- PUSH DE
  | sub_a_n (n : Byte)  -- SUB A,n
  | sbc_a_n (n : Byte)  -- SBC A,n
  | ldh_mn_a (n : Byte)  -- LDH (n),A
  | pop_hl  -- POP HL
  | ldh_mc_a  -- LDH (C),A
  | push_hl  -- PUSH HL
  | ld_mnn_a (nn : Word)  -- LD (nn),A
  | ldh_a_mn (n : Byte)  -- LDH A,(n)
  | pop_af  -- POP AF
  | ldh_a_mc  -- LDH A,(C)
  | push_af  -- PUSH AF
  | ld_hl_spe (e : Byte)  -- LD HL,SP+e
  | ld_sp_hl  -- LD SP,HL
  | ld_a_mnn (nn : Word)  -- LD A,(nn)
  | cp_a_n (n : Byte)  -- CP A,n
  | invalid (op : Byte)  -- INVALID: an empty entry of the opcode table (R87), with its byte
deriving DecidableEq, Repr

end Sys2Proof
end

