-- ==== Sys2Proof/Machine/Forms.lean ====
section
/-! DEFINITION. The form of each instruction (R85), the field codes (R83) and the empty entries (R87). -/

namespace Sys2Proof

/-- The field `r` code (R83): B=0, C=1, D=2, E=3, H=4, L=5, A=7; 6 is memory at HL. -/
def Reg8.code : Reg8 → BitVec 3
  | .b => 0 | .c => 1 | .d => 2 | .e => 3 | .h => 4 | .l => 5 | .a => 7

/-- The field value 6 of `r`: memory at HL (R83). -/
def hlCode : BitVec 3 := 6

/-- The field `dd` code (R83). -/
def RegDD.code : RegDD → BitVec 2
  | .bc => 0 | .de => 1 | .hl => 2 | .sp => 3

/-- The field `qq` code (R83). -/
def RegQQ.code : RegQQ → BitVec 2
  | .bc => 0 | .de => 1 | .hl => 2 | .af => 3

/-- The field `ooo` code (R83). -/
def AluOp.code : AluOp → BitVec 3
  | .add => 0 | .adc => 1 | .sub => 2 | .sbc => 3 | .cp => 7

/-- `dd` as a register of `x[rr]`. -/
def RegDD.pair : RegDD → Pair
  | .bc => .bc | .de => .de | .hl => .hl | .sp => .sp

/-- `qq` as a register of `x[rr]`. -/
def RegQQ.pair : RegQQ → Pair
  | .bc => .bc | .de => .de | .hl => .hl | .af => .af

/-- The instruction's form (R85, R86). -/
def Instr.form : Instr → Form
  | .ld_bc_nn nn => .ldRRNN .bc nn
  | .ld_mbc_a => .ldBCA
  | .ld_b_n n => .ldRN .b n
  | .ld_a_mbc => .ldABC
  | .ld_c_n n => .ldRN .c n
  | .ld_de_nn nn => .ldRRNN .de nn
  | .ld_mde_a => .ldDEA
  | .ld_d_n n => .ldRN .d n
  | .ld_a_mde => .ldADE
  | .ld_e_n n => .ldRN .e n
  | .ld_hl_nn nn => .ldRRNN .hl nn
  | .ld_mhli_a => .ldHLIA
  | .ld_h_n n => .ldRN .h n
  | .ld_a_mhli => .ldAHLI
  | .ld_l_n n => .ldRN .l n
  | .ld_sp_nn nn => .ldRRNN .sp nn
  | .ld_mhld_a => .ldHLDA
  | .ld_mhl_n n => .ldHLN n
  | .ld_a_mhld => .ldAHLD
  | .ld_a_n n => .ldRN .a n
  | .ld_b_b => .ldRR .b .b
  | .ld_b_c => .ldRR .b .c
  | .ld_b_d => .ldRR .b .d
  | .ld_b_e => .ldRR .b .e
  | .ld_b_h => .ldRR .b .h
  | .ld_b_l => .ldRR .b .l
  | .ld_b_mhl => .ldRHL .b
  | .ld_b_a => .ldRR .b .a
  | .ld_c_b => .ldRR .c .b
  | .ld_c_c => .ldRR .c .c
  | .ld_c_d => .ldRR .c .d
  | .ld_c_e => .ldRR .c .e
  | .ld_c_h => .ldRR .c .h
  | .ld_c_l => .ldRR .c .l
  | .ld_c_mhl => .ldRHL .c
  | .ld_c_a => .ldRR .c .a
  | .ld_d_b => .ldRR .d .b
  | .ld_d_c => .ldRR .d .c
  | .ld_d_d => .ldRR .d .d
  | .ld_d_e => .ldRR .d .e
  | .ld_d_h => .ldRR .d .h
  | .ld_d_l => .ldRR .d .l
  | .ld_d_mhl => .ldRHL .d
  | .ld_d_a => .ldRR .d .a
  | .ld_e_b => .ldRR .e .b
  | .ld_e_c => .ldRR .e .c
  | .ld_e_d => .ldRR .e .d
  | .ld_e_e => .ldRR .e .e
  | .ld_e_h => .ldRR .e .h
  | .ld_e_l => .ldRR .e .l
  | .ld_e_mhl => .ldRHL .e
  | .ld_e_a => .ldRR .e .a
  | .ld_h_b => .ldRR .h .b
  | .ld_h_c => .ldRR .h .c
  | .ld_h_d => .ldRR .h .d
  | .ld_h_e => .ldRR .h .e
  | .ld_h_h => .ldRR .h .h
  | .ld_h_l => .ldRR .h .l
  | .ld_h_mhl => .ldRHL .h
  | .ld_h_a => .ldRR .h .a
  | .ld_l_b => .ldRR .l .b
  | .ld_l_c => .ldRR .l .c
  | .ld_l_d => .ldRR .l .d
  | .ld_l_e => .ldRR .l .e
  | .ld_l_h => .ldRR .l .h
  | .ld_l_l => .ldRR .l .l
  | .ld_l_mhl => .ldRHL .l
  | .ld_l_a => .ldRR .l .a
  | .ld_mhl_b => .ldHLR .b
  | .ld_mhl_c => .ldHLR .c
  | .ld_mhl_d => .ldHLR .d
  | .ld_mhl_e => .ldHLR .e
  | .ld_mhl_h => .ldHLR .h
  | .ld_mhl_l => .ldHLR .l
  | .ld_mhl_a => .ldHLR .a
  | .ld_a_b => .ldRR .a .b
  | .ld_a_c => .ldRR .a .c
  | .ld_a_d => .ldRR .a .d
  | .ld_a_e => .ldRR .a .e
  | .ld_a_h => .ldRR .a .h
  | .ld_a_l => .ldRR .a .l
  | .ld_a_mhl => .ldRHL .a
  | .ld_a_a => .ldRR .a .a
  | .add_a_b => .aluR .add .b
  | .add_a_c => .aluR .add .c
  | .add_a_d => .aluR .add .d
  | .add_a_e => .aluR .add .e
  | .add_a_h => .aluR .add .h
  | .add_a_l => .aluR .add .l
  | .add_a_mhl => .aluHL .add
  | .add_a_a => .aluR .add .a
  | .adc_a_b => .aluR .adc .b
  | .adc_a_c => .aluR .adc .c
  | .adc_a_d => .aluR .adc .d
  | .adc_a_e => .aluR .adc .e
  | .adc_a_h => .aluR .adc .h
  | .adc_a_l => .aluR .adc .l
  | .adc_a_mhl => .aluHL .adc
  | .adc_a_a => .aluR .adc .a
  | .sub_a_b => .aluR .sub .b
  | .sub_a_c => .aluR .sub .c
  | .sub_a_d => .aluR .sub .d
  | .sub_a_e => .aluR .sub .e
  | .sub_a_h => .aluR .sub .h
  | .sub_a_l => .aluR .sub .l
  | .sub_a_mhl => .aluHL .sub
  | .sub_a_a => .aluR .sub .a
  | .sbc_a_b => .aluR .sbc .b
  | .sbc_a_c => .aluR .sbc .c
  | .sbc_a_d => .aluR .sbc .d
  | .sbc_a_e => .aluR .sbc .e
  | .sbc_a_h => .aluR .sbc .h
  | .sbc_a_l => .aluR .sbc .l
  | .sbc_a_mhl => .aluHL .sbc
  | .sbc_a_a => .aluR .sbc .a
  | .cp_a_b => .aluR .cp .b
  | .cp_a_c => .aluR .cp .c
  | .cp_a_d => .aluR .cp .d
  | .cp_a_e => .aluR .cp .e
  | .cp_a_h => .aluR .cp .h
  | .cp_a_l => .aluR .cp .l
  | .cp_a_mhl => .aluHL .cp
  | .cp_a_a => .aluR .cp .a
  | .pop_bc => .pop .bc
  | .push_bc => .push .bc
  | .add_a_n n => .aluN .add n
  | .adc_a_n n => .aluN .adc n
  | .pop_de => .pop .de
  | .push_de => .push .de
  | .sub_a_n n => .aluN .sub n
  | .sbc_a_n n => .aluN .sbc n
  | .ldh_mn_a n => .ldhNA n
  | .pop_hl => .pop .hl
  | .ldh_mc_a => .ldhCA
  | .push_hl => .push .hl
  | .ld_mnn_a nn => .ldNNA nn
  | .ldh_a_mn n => .ldhAN n
  | .pop_af => .pop .af
  | .ldh_a_mc => .ldhAC
  | .push_af => .push .af
  | .ld_hl_spe e => .ldHLSPE e
  | .ld_sp_hl => .ldSPHL
  | .ld_a_mnn nn => .ldANN nn
  | .cp_a_n n => .aluN .cp n
  | .invalid op => .invalid op

/-- The 112 empty entries, as R87 lists them. -/
def emptyEntries : List Byte :=
  [0x00, 0x03, 0x04, 0x05, 0x07, 0x08, 0x09, 0x0B, 0x0C, 0x0D, 0x0F, 0x10, 0x13, 0x14, 0x15, 0x17] ++
  [0x18, 0x19, 0x1B, 0x1C, 0x1D, 0x1F, 0x20, 0x23, 0x24, 0x25, 0x27, 0x28, 0x29, 0x2B, 0x2C, 0x2D] ++
  [0x2F, 0x30, 0x33, 0x34, 0x35, 0x37, 0x38, 0x39, 0x3B, 0x3C, 0x3D, 0x3F, 0x76, 0xA0, 0xA1, 0xA2] ++
  [0xA3, 0xA4, 0xA5, 0xA6, 0xA7, 0xA8, 0xA9, 0xAA, 0xAB, 0xAC, 0xAD, 0xAE, 0xAF, 0xB0, 0xB1, 0xB2] ++
  [0xB3, 0xB4, 0xB5, 0xB6, 0xB7, 0xC0, 0xC2, 0xC3, 0xC4, 0xC7, 0xC8, 0xC9, 0xCA, 0xCB, 0xCC, 0xCD] ++
  [0xCF, 0xD0, 0xD2, 0xD3, 0xD4, 0xD7, 0xD8, 0xD9, 0xDA, 0xDB, 0xDC, 0xDD, 0xDF, 0xE3, 0xE4, 0xE6] ++
  [0xE7, 0xE8, 0xE9, 0xEB, 0xEC, 0xED, 0xEE, 0xEF, 0xF3, 0xF4, 0xF6, 0xF7, 0xFB, 0xFC, 0xFD, 0xFF]

end Sys2Proof
end

