-- ==== Sys2Proof/WellFormed.lean ====
section
/-! DEFINITION. Which instruction terms stand for bytes. The types of the immediates already bound them (R85), so the one check
is that INVALID carries the byte of an EMPTY entry (R87): a byte with an entry is that instruction, never INVALID. -/

namespace Sys2Proof

/-- The check on a form. -/
def Form.wellFormed : Form → Bool
  | .invalid op => emptyEntries.contains op
  | .ldRR _ _ | .ldRN _ _ | .ldRHL _ | .ldHLR _ | .ldHLN _ | .ldABC | .ldADE | .ldBCA | .ldDEA
  | .ldANN _ | .ldNNA _ | .ldhAC | .ldhCA | .ldhAN _ | .ldhNA _ | .ldAHLI | .ldAHLD | .ldHLIA | .ldHLDA
  | .ldRRNN _ _ | .push _ | .pop _ | .ldSPHL | .ldHLSPE _ | .aluR _ _ | .aluHL _ | .aluN _ _ => true

/-- The instruction is one that bytes decode to. -/
def Instr.wellFormed (i : Instr) : Bool := i.form.wellFormed

end Sys2Proof
end

