-- ==== Sys2Proof/Decode.lean ====
section
/-! DEFINITION. Decoding and encoding. The decoder is written from the opcode map, byte by byte (R86); the encoder from
the formats and their fields (R83, R85). That the two agree is a statement for the provers. -/

namespace Sys2Proof

/-- An entry of the opcode map: an instruction without immediate bytes, or one that takes a byte, or a 16-bit value (R85). -/
inductive MapEntry where
  | plain (i : Instr)
  | imm8 (k : Byte → Instr)
  | imm16 (k : Word → Instr)

/-- The opcode map of R86, indexed by the opcode byte; a byte without an entry is empty (R87). -/
def opcodeMap (op : Byte) : MapEntry :=
  match op.toNat with
  | 0x01 => .imm16 .ld_bc_nn
  | 0x02 => .plain .ld_mbc_a
  | 0x06 => .imm8 .ld_b_n
  | 0x0A => .plain .ld_a_mbc
  | 0x0E => .imm8 .ld_c_n
  | 0x11 => .imm16 .ld_de_nn
  | 0x12 => .plain .ld_mde_a
  | 0x16 => .imm8 .ld_d_n
  | 0x1A => .plain .ld_a_mde
  | 0x1E => .imm8 .ld_e_n
  | 0x21 => .imm16 .ld_hl_nn
  | 0x22 => .plain .ld_mhli_a
  | 0x26 => .imm8 .ld_h_n
  | 0x2A => .plain .ld_a_mhli
  | 0x2E => .imm8 .ld_l_n
  | 0x31 => .imm16 .ld_sp_nn
  | 0x32 => .plain .ld_mhld_a
  | 0x36 => .imm8 .ld_mhl_n
  | 0x3A => .plain .ld_a_mhld
  | 0x3E => .imm8 .ld_a_n
  | 0x40 => .plain .ld_b_b
  | 0x41 => .plain .ld_b_c
  | 0x42 => .plain .ld_b_d
  | 0x43 => .plain .ld_b_e
  | 0x44 => .plain .ld_b_h
  | 0x45 => .plain .ld_b_l
  | 0x46 => .plain .ld_b_mhl
  | 0x47 => .plain .ld_b_a
  | 0x48 => .plain .ld_c_b
  | 0x49 => .plain .ld_c_c
  | 0x4A => .plain .ld_c_d
  | 0x4B => .plain .ld_c_e
  | 0x4C => .plain .ld_c_h
  | 0x4D => .plain .ld_c_l
  | 0x4E => .plain .ld_c_mhl
  | 0x4F => .plain .ld_c_a
  | 0x50 => .plain .ld_d_b
  | 0x51 => .plain .ld_d_c
  | 0x52 => .plain .ld_d_d
  | 0x53 => .plain .ld_d_e
  | 0x54 => .plain .ld_d_h
  | 0x55 => .plain .ld_d_l
  | 0x56 => .plain .ld_d_mhl
  | 0x57 => .plain .ld_d_a
  | 0x58 => .plain .ld_e_b
  | 0x59 => .plain .ld_e_c
  | 0x5A => .plain .ld_e_d
  | 0x5B => .plain .ld_e_e
  | 0x5C => .plain .ld_e_h
  | 0x5D => .plain .ld_e_l
  | 0x5E => .plain .ld_e_mhl
  | 0x5F => .plain .ld_e_a
  | 0x60 => .plain .ld_h_b
  | 0x61 => .plain .ld_h_c
  | 0x62 => .plain .ld_h_d
  | 0x63 => .plain .ld_h_e
  | 0x64 => .plain .ld_h_h
  | 0x65 => .plain .ld_h_l
  | 0x66 => .plain .ld_h_mhl
  | 0x67 => .plain .ld_h_a
  | 0x68 => .plain .ld_l_b
  | 0x69 => .plain .ld_l_c
  | 0x6A => .plain .ld_l_d
  | 0x6B => .plain .ld_l_e
  | 0x6C => .plain .ld_l_h
  | 0x6D => .plain .ld_l_l
  | 0x6E => .plain .ld_l_mhl
  | 0x6F => .plain .ld_l_a
  | 0x70 => .plain .ld_mhl_b
  | 0x71 => .plain .ld_mhl_c
  | 0x72 => .plain .ld_mhl_d
  | 0x73 => .plain .ld_mhl_e
  | 0x74 => .plain .ld_mhl_h
  | 0x75 => .plain .ld_mhl_l
  | 0x77 => .plain .ld_mhl_a
  | 0x78 => .plain .ld_a_b
  | 0x79 => .plain .ld_a_c
  | 0x7A => .plain .ld_a_d
  | 0x7B => .plain .ld_a_e
  | 0x7C => .plain .ld_a_h
  | 0x7D => .plain .ld_a_l
  | 0x7E => .plain .ld_a_mhl
  | 0x7F => .plain .ld_a_a
  | 0x80 => .plain .add_a_b
  | 0x81 => .plain .add_a_c
  | 0x82 => .plain .add_a_d
  | 0x83 => .plain .add_a_e
  | 0x84 => .plain .add_a_h
  | 0x85 => .plain .add_a_l
  | 0x86 => .plain .add_a_mhl
  | 0x87 => .plain .add_a_a
  | 0x88 => .plain .adc_a_b
  | 0x89 => .plain .adc_a_c
  | 0x8A => .plain .adc_a_d
  | 0x8B => .plain .adc_a_e
  | 0x8C => .plain .adc_a_h
  | 0x8D => .plain .adc_a_l
  | 0x8E => .plain .adc_a_mhl
  | 0x8F => .plain .adc_a_a
  | 0x90 => .plain .sub_a_b
  | 0x91 => .plain .sub_a_c
  | 0x92 => .plain .sub_a_d
  | 0x93 => .plain .sub_a_e
  | 0x94 => .plain .sub_a_h
  | 0x95 => .plain .sub_a_l
  | 0x96 => .plain .sub_a_mhl
  | 0x97 => .plain .sub_a_a
  | 0x98 => .plain .sbc_a_b
  | 0x99 => .plain .sbc_a_c
  | 0x9A => .plain .sbc_a_d
  | 0x9B => .plain .sbc_a_e
  | 0x9C => .plain .sbc_a_h
  | 0x9D => .plain .sbc_a_l
  | 0x9E => .plain .sbc_a_mhl
  | 0x9F => .plain .sbc_a_a
  | 0xB8 => .plain .cp_a_b
  | 0xB9 => .plain .cp_a_c
  | 0xBA => .plain .cp_a_d
  | 0xBB => .plain .cp_a_e
  | 0xBC => .plain .cp_a_h
  | 0xBD => .plain .cp_a_l
  | 0xBE => .plain .cp_a_mhl
  | 0xBF => .plain .cp_a_a
  | 0xC1 => .plain .pop_bc
  | 0xC5 => .plain .push_bc
  | 0xC6 => .imm8 .add_a_n
  | 0xCE => .imm8 .adc_a_n
  | 0xD1 => .plain .pop_de
  | 0xD5 => .plain .push_de
  | 0xD6 => .imm8 .sub_a_n
  | 0xDE => .imm8 .sbc_a_n
  | 0xE0 => .imm8 .ldh_mn_a
  | 0xE1 => .plain .pop_hl
  | 0xE2 => .plain .ldh_mc_a
  | 0xE5 => .plain .push_hl
  | 0xEA => .imm16 .ld_mnn_a
  | 0xF0 => .imm8 .ldh_a_mn
  | 0xF1 => .plain .pop_af
  | 0xF2 => .plain .ldh_a_mc
  | 0xF5 => .plain .push_af
  | 0xF8 => .imm8 .ld_hl_spe
  | 0xF9 => .plain .ld_sp_hl
  | 0xFA => .imm16 .ld_a_mnn
  | 0xFE => .imm8 .cp_a_n
  | _ => .plain (.invalid op)

/-- The instruction an opcode byte and the two bytes after it stand for. The opcode alone determines which of them are used
(R82); a 16-bit immediate has its low byte first (R93; conflict C1). -/
def decodeOp (op b1 b2 : Byte) : Instr :=
  match opcodeMap op with
  | .plain i => i
  | .imm8 k => k b1
  | .imm16 k => k (Machine.join b2 b1)

/-- The length in bytes (R95): one plus the immediate bytes of the format. -/
def Form.length : Form → Nat
  | .ldRR _ _ | .ldRHL _ | .ldHLR _ | .ldABC | .ldADE | .ldBCA | .ldDEA | .ldhAC | .ldhCA
  | .ldAHLI | .ldAHLD | .ldHLIA | .ldHLDA | .push _ | .pop _ | .ldSPHL | .aluR _ _ | .aluHL _ => 1
  | .ldRN _ _ | .ldHLN _ | .ldhAN _ | .ldhNA _ | .ldHLSPE _ | .aluN _ _ => 2
  | .ldANN _ | .ldNNA _ | .ldRRNN _ _ => 3
  | .invalid _ => 1

/-- The length in bytes of an instruction (R95); of an empty entry, the one byte that is fetched (R232). -/
def Instr.length (i : Instr) : Nat := i.form.length

/-- Why a list of bytes is not decoded. -/
inductive DecodeError where
  /-- No byte at all. -/
  | noByte
  /-- Fewer bytes than the opcode asks for (R95). -/
  | truncated (op : Byte)
deriving DecidableEq, Repr

/-- Decode the first instruction of a list of bytes and give the bytes after it; total, and a list that is too short is rejected
by name. An empty entry (R87) decodes to `invalid` with its byte. -/
def decode : List Byte → Except DecodeError (Instr × List Byte)
  | [] => .error .noByte
  | op :: rest =>
    match opcodeMap op, rest with
    | .plain i, rest => .ok (i, rest)
    | .imm8 k, n :: rest => .ok (k n, rest)
    | .imm16 k, lo :: hi :: rest => .ok (k (Machine.join hi lo), rest)
    | .imm8 _, [] | .imm16 _, [] | .imm16 _, [_] => .error (.truncated op)

/-- The opcode byte, from the bit patterns of R85. -/
def Form.opcode : Form → Byte
  | .ldRR dst src => 0b01#2 ++ dst.code ++ src.code
  | .ldRN dst _ => 0b00#2 ++ dst.code ++ 0b110#3
  | .ldRHL dst => 0b01#2 ++ dst.code ++ hlCode
  | .ldHLR src => 0b01#2 ++ hlCode ++ src.code
  | .ldHLN _ => 0b00#2 ++ hlCode ++ 0b110#3
  | .ldABC => 0x0A
  | .ldADE => 0x1A
  | .ldBCA => 0x02
  | .ldDEA => 0x12
  | .ldANN _ => 0xFA
  | .ldNNA _ => 0xEA
  | .ldhAC => 0xF2
  | .ldhCA => 0xE2
  | .ldhAN _ => 0xF0
  | .ldhNA _ => 0xE0
  | .ldAHLI => 0x2A
  | .ldAHLD => 0x3A
  | .ldHLIA => 0x22
  | .ldHLDA => 0x32
  | .ldRRNN p _ => 0b00#2 ++ p.code ++ 0b0001#4
  | .push p => 0b11#2 ++ p.code ++ 0b0101#4
  | .pop p => 0b11#2 ++ p.code ++ 0b0001#4
  | .ldSPHL => 0xF9
  | .ldHLSPE _ => 0xF8
  | .aluR o r => 0b10#2 ++ o.code ++ r.code
  | .aluHL o => 0b10#2 ++ o.code ++ hlCode
  | .aluN o _ => 0b11#2 ++ o.code ++ 0b110#3
  | .invalid op => op

/-- The bytes after the opcode: `n`, `e`, or `nn` with its low byte first (R85, R93). -/
def Form.immediates : Form → List Byte
  | .ldRR _ _ | .ldRHL _ | .ldHLR _ | .ldABC | .ldADE | .ldBCA | .ldDEA | .ldhAC | .ldhCA
  | .ldAHLI | .ldAHLD | .ldHLIA | .ldHLDA | .push _ | .pop _ | .ldSPHL | .aluR _ _ | .aluHL _ | .invalid _ => []
  | .ldRN _ n | .ldHLN n | .ldhAN n | .ldhNA n | .ldHLSPE n | .aluN _ n => [n]
  | .ldANN nn | .ldNNA nn | .ldRRNN _ nn => [Machine.loByte nn, Machine.hiByte nn]

/-- The opcode byte of an instruction. -/
def Instr.opcode (i : Instr) : Byte := i.form.opcode

/-- The bytes of an instruction, in the order they stand in memory (R82). -/
def encode (i : Instr) : List Byte := i.form.opcode :: i.form.immediates

/-- Byte `k` of the host's numbering of an instruction of `nbits` bits: bits `8k+7` to `8k` of `w`, every bit above
`nbits` being 0. -/
def tableByte (nbits w k : Nat) : Byte := BitVec.ofNat 8 ((w % 2 ^ nbits) / 2 ^ (8 * k))

/-- The instruction the decoder reads from a word of the host's opcode table: its bytes in memory order, the first being
bits 7 to 0, and zeros above `nbits` up to the longest instruction, three bytes (R82). -/
def decodeTableWord (nbits w : Nat) : Option Instr :=
  match decode [tableByte nbits w 0, tableByte nbits w 1, tableByte nbits w 2] with
  | .ok (i, _) => some i
  | .error _ => none

end Sys2Proof
end

