-- ==== Sys2Proof/Machine/OpcodeTable.lean ====
section
/-! DEFINITION. The opcode table (R84): for each byte the mnemonic, the length and the machine cycles of its entry, or no entry.
The handler bound to an entry is `exec`'s arm. -/

namespace Sys2Proof

/-- `MCYCLES` (R98): the machine cycles of each entry, by opcode byte. It is an OPEN parameter of the model (D10, U7): `stepWith` takes
the table as an argument. What a table holds for an empty entry is never read (R232). -/
abbrev CycleTable := Byte → Nat

/-- The defaults of R98, by form. Only `LD r,n` is the source's; the others are the spec's general knowledge (D10; log entry 3). -/
def Form.defaultCycles : Form → Nat
  | .ldRN _ _ => 2
  | .ldRR _ _ => 1
  | .ldRHL _ | .ldHLR _ => 2
  | .ldHLN _ => 3
  | .ldABC | .ldADE | .ldBCA | .ldDEA => 2
  | .ldANN _ | .ldNNA _ => 4
  | .ldhAC | .ldhCA => 2
  | .ldhAN _ | .ldhNA _ => 3
  | .ldAHLI | .ldAHLD | .ldHLIA | .ldHLDA => 2
  | .ldRRNN _ _ => 3
  | .push _ => 4
  | .pop _ => 3
  | .ldSPHL => 2
  | .ldHLSPE _ => 3
  | .aluR _ _ => 1
  | .aluHL _ => 2
  | .aluN _ _ => 2
  | .invalid _ => 0

/-- The default table of R98. -/
def defaultCycles : CycleTable := fun op => (decodeOp op 0 0).form.defaultCycles

/-- A register as R96 spells it. -/
def Reg8.spelling : Reg8 → String
  | .b => "B" | .c => "C" | .d => "D" | .e => "E" | .h => "H" | .l => "L" | .a => "A"

/-- A `dd` register as R96 spells it. -/
def RegDD.spelling : RegDD → String
  | .bc => "BC" | .de => "DE" | .hl => "HL" | .sp => "SP"

/-- A `qq` pair as R96 spells it. -/
def RegQQ.spelling : RegQQ → String
  | .bc => "BC" | .de => "DE" | .hl => "HL" | .af => "AF"

/-- An ALU operation as R96 spells it, with the explicit accumulator (D20). -/
def AluOp.spelling : AluOp → String
  | .add => "ADD A," | .adc => "ADC A," | .sub => "SUB A," | .sbc => "SBC A," | .cp => "CP A,"

/-- The mnemonic the table holds, for diagnostics only (R96, R97); an empty entry has none. -/
def Form.mnemonic : Form → Option String
  | .ldRR dst src => some ("LD " ++ dst.spelling ++ "," ++ src.spelling)
  | .ldRN dst _ => some ("LD " ++ dst.spelling ++ ",n")
  | .ldRHL dst => some ("LD " ++ dst.spelling ++ ",(HL)")
  | .ldHLR src => some ("LD (HL)," ++ src.spelling)
  | .ldHLN _ => some "LD (HL),n"
  | .ldABC => some "LD A,(BC)"
  | .ldADE => some "LD A,(DE)"
  | .ldBCA => some "LD (BC),A"
  | .ldDEA => some "LD (DE),A"
  | .ldANN _ => some "LD A,(nn)"
  | .ldNNA _ => some "LD (nn),A"
  | .ldhAC => some "LDH A,(C)"
  | .ldhCA => some "LDH (C),A"
  | .ldhAN _ => some "LDH A,(n)"
  | .ldhNA _ => some "LDH (n),A"
  | .ldAHLI => some "LD A,(HL+)"
  | .ldAHLD => some "LD A,(HL-)"
  | .ldHLIA => some "LD (HL+),A"
  | .ldHLDA => some "LD (HL-),A"
  | .ldRRNN p _ => some ("LD " ++ p.spelling ++ ",nn")
  | .push p => some ("PUSH " ++ p.spelling)
  | .pop p => some ("POP " ++ p.spelling)
  | .ldSPHL => some "LD SP,HL"
  | .ldHLSPE _ => some "LD HL,SP+e"
  | .aluR o r => some (o.spelling ++ r.spelling)
  | .aluHL o => some (o.spelling ++ "(HL)")
  | .aluN o _ => some (o.spelling ++ "n")
  | .invalid _ => none

/-- One Opcode Descriptor (R84). -/
structure OpcodeDescriptor where
  mnemonic : String
  length : Nat
  mcycles : Nat
deriving DecidableEq, Repr

/-- The mnemonic of a byte's entry (R96, R97); an empty entry has none. -/
def opcodeMnemonic (op : Byte) : Option String := (decodeOp op 0 0).form.mnemonic

/-- The 256-entry opcode table (R84) with the machine cycles of a given `MCYCLES` (R98): an empty entry is `none`. -/
def opcodeTable (mc : CycleTable) (op : Byte) : Option OpcodeDescriptor :=
  (opcodeMnemonic op).map fun m => { mnemonic := m, length := (decodeOp op 0 0).form.length, mcycles := mc op }

end Sys2Proof
end

