-- ==== Sys2Proof/Config.lean ====
section
/-! DEFINITION. What is fixed for the machine and is not state: the parameters of R10 and the one value the
spec leaves to the launch (R56). The opcode table (R84) is configuration too: it is `opcodeTable`
in Machine/OpcodeTable.lean; its `MCYCLES` (R98) is the other open parameter, an argument of `stepWith`. The spec leaves no instruction's result undefined, so there is
no opaque free value here. -/

namespace Sys2Proof.Config

/-- The number of bytes of the Memory Bus; every 16-bit value is a valid address (R10, R50). -/
def memorySize : Nat := 65536

/-- What a byte of memory that nothing has written reads as.
DESIGN CHOICE (log entry 1), unsafe: the spec makes the initial contents the parameter `MEM0` (R56, D13). A statement over
every state is a statement over every `MEM0`; no statement rests on this value but those that name it. -/
def unlistedByte : Byte := 0x00#8

/-- The entry point: PC after construction (R35, R261). -/
def entryPoint : Word := 0x0100#16

end Sys2Proof.Config
end

