-- ==== Sys2Proof/Machine/Memory.lean ====
section
/-! DEFINITION. The Memory Bus array (R50): a list of (address, byte) cells in one canonical form, so that equal memories are
equal lists. Addresses strictly rise, and no cell holds what an unlisted address reads as. -/

namespace Sys2Proof.Machine

/-- The bytes of memory that differ from `Config.unlistedByte`, by address (R50). -/
abbrev Memory := List Host.Cell

/-- The canonical form: addresses strictly rise, lie in the address space, and no cell is redundant. -/
abbrev Memory.wf (m : Memory) : Prop :=
  m.Pairwise (fun x y => x.1 < y.1) ∧ ∀ c ∈ m, c.1 < Config.memorySize ∧ c.2 ≠ Config.unlistedByte

/-- The byte at an address (R51): a listed one, else what an unlisted address reads as. -/
def Memory.read : Memory → Nat → Byte
  | [], _ => Config.unlistedByte
  | c :: rest, a => if c.1 = a then c.2 else Memory.read rest a

/-- The memory without the cell of an address. -/
def Memory.erase (m : Memory) (a : Nat) : Memory := m.filter (fun c => c.1 != a)

/-- A cell put in its place by address. -/
def Memory.insert : Memory → Nat → Byte → Memory
  | [], a, v => [(a, v)]
  | c :: rest, a, v => if a < c.1 then (a, v) :: c :: rest else c :: Memory.insert rest a v

/-- One byte stored (R52), the canonical form kept: a byte equal to what an unlisted address reads as is not listed. -/
def Memory.write (m : Memory) (a : Nat) (v : Byte) : Memory :=
  if v = Config.unlistedByte then Memory.erase m a else Memory.insert (Memory.erase m a) a v

end Sys2Proof.Machine
end

