-- ==== Sys2Proof/Machine/State.lean ====
section
/-! DEFINITION. The state of the block (R20), its one fault (R231), and the state after construction (R35, R36). -/

namespace Sys2Proof.Machine

/-- The complete state `(regs, mcycles, mem)` of R20: the Register File (R21, R29, R30), the machine-cycle counter (R33)
and the Memory Bus array (R50). The pairs AF, BC, DE and HL are no fields: they are views of the bytes (R24). -/
structure State where
  /-- accumulator (R21) -/
  a : Byte
  /-- flags: Z, N, H, C in bits 7 to 4, bits 3 to 0 always zero (R25, R26) -/
  f : Byte
  b : Byte
  c : Byte
  d : Byte
  e : Byte
  h : Byte
  l : Byte
  /-- stack pointer (R29) -/
  sp : Word
  /-- program counter (R30) -/
  pc : Word
  /-- machine-cycle counter (R33) -/
  mcycles : Counter
  /-- the Memory Bus array (R50) -/
  mem : Memory
deriving DecidableEq, Repr

/-- The ways a step stops. The core defines exactly one error (R230). -/
inductive Fault where
  /-- Invalid Opcode (R231): raised by dispatch, and by it alone, for a byte whose table entry is empty (R87). It carries the byte and
  the address it was fetched from, and `after`, the state R232 gives: a host that goes on continues from there (R236, R237).
  Safe (log entry 4): the model stops where a host may go on. -/
  | invalidOpcode (byte : Byte) (addr : Word) (after : State)
deriving DecidableEq, Repr

/-- The ways the model declines an instruction. -/
inductive Refusal where
  /-- Raised only by an arm of `exec` for an instruction that has no meaning yet; every arm has one, so nothing raises it. Safe. -/
  | notModelled (mnemonic : String)
deriving DecidableEq, Repr

/-- The state after construction: the Register File of R35, the counter 0 (R36), and no byte of memory listed
(log entry 1; R56). -/
def State.reset : State where
  a := 0x01
  f := 0xB0
  b := 0x00
  c := 0x13
  d := 0x00
  e := 0xD8
  h := 0x01
  l := 0x4D
  sp := 0xFFFE
  pc := Config.entryPoint
  mcycles := 0
  mem := []

end Sys2Proof.Machine
end

