-- ==== Sys2Proof/Machine/Ops.lean ====
section
/-! DEFINITION. The named operations over registers, flags, memory and the stack, the end of an instruction, and the core's one
exception. All reads and writes of State go through these. -/

namespace Sys2Proof.Machine

/-- What a meaning answers. -/
abbrev Result := Host.Outcome State Fault Refusal

/-- `x[r]` (R13, R21). -/
def State.reg (s : State) : Reg8 → Byte
  | .b => s.b | .c => s.c | .d => s.d | .e => s.e | .h => s.h | .l => s.l | .a => s.a

/-- `x[r] <- v` (R13, R21). No register is hardwired. -/
def State.setReg (s : State) (r : Reg8) (v : Byte) : State :=
  match r with
  | .b => { s with b := v }
  | .c => { s with c := v }
  | .d => { s with d := v }
  | .e => { s with e := v }
  | .h => { s with h := v }
  | .l => { s with l := v }
  | .a => { s with a := v }

/-- A write to F: bits 3 to 0 are masked out on every write (R26). -/
def State.writeF (s : State) (v : Byte) : State := { s with f := maskF v }

/-- The four flags written to F together (R13). -/
def State.setFlags (s : State) (fl : Flags) : State := s.writeF fl.toByte

/-- A flag read from F (R25). -/
def State.flag (s : State) (x : Flag) : Bool := readFlag s.f x

/-- A write to SP (R29): any 16-bit value. -/
def State.setSP (s : State) (v : Word) : State := { s with sp := v }

/-- `x[rr]` (R22): the high register over the low one, or SP. -/
def State.pair (s : State) : Pair → Word
  | .af => join s.a s.f
  | .bc => join s.b s.c
  | .de => join s.d s.e
  | .hl => join s.h s.l
  | .sp => s.sp

/-- `x[rr] <- v` (R23): both halves, F masked; or SP. -/
def State.setPair (s : State) (p : Pair) (v : Word) : State :=
  match p with
  | .af => { s with a := hiByte v }.writeF (loByte v)
  | .bc => { s with b := hiByte v, c := loByte v }
  | .de => { s with d := hiByte v, e := loByte v }
  | .hl => { s with h := hiByte v, l := loByte v }
  | .sp => s.setSP v

/-- `MemRead(addr, 1)` (R14, R51): it never fails and changes nothing. -/
def State.read8 (s : State) (addr : Word) : Byte := s.mem.read addr.toNat

/-- `MemWrite(addr, 1, v)` (R14, R52): it never fails and changes one byte. -/
def State.write8 (s : State) (addr : Word) (v : Byte) : State := { s with mem := s.mem.write addr.toNat v }

/-- `fetch8()` (R14): the byte at PC, and PC moved on by 1 modulo 65536 (R31). -/
def State.fetch8 (s : State) : Byte × State := (s.read8 s.pc, { s with pc := s.pc + 1 })

/-- `fetch16()` (R14): two bytes by `fetch8()`, the low byte first (R57, R93). -/
def State.fetch16 (s : State) : Word × State :=
  let (lo, s1) := s.fetch8
  let (hi, s2) := s1.fetch8
  (join hi lo, s2)

/-- The stack's push (R163): SP down by 1, the high byte stored, SP down by 1, the low byte stored, modulo 65536 (R164). -/
def State.push16 (s : State) (v : Word) : State :=
  let s1 := s.setSP (s.sp - 1)
  let s2 := s1.write8 s1.sp (hiByte v)
  let s3 := s2.setSP (s2.sp - 1)
  s3.write8 s3.sp (loByte v)

/-- The stack's pop (R165): the low byte at SP, SP up by 1, the high byte at SP, SP up by 1, modulo 65536 (R164). -/
def State.pop16 (s : State) : Word × State :=
  let lo := s.read8 s.sp
  let s1 := s.setSP (s.sp + 1)
  let hi := s1.read8 s1.sp
  (join hi lo, s1.setSP (s1.sp + 1))

/-- PC past the instruction's bytes, modulo 65536 (R30, R31, R95). -/
def State.advance (s : State) (fm : Form) : State := { s with pc := s.pc + BitVec.ofNat 16 fm.length }

/-- Cycle accounting, step 5 of R80: `n` machine cycles are added to the counter, modulo 2^64 (R33; D12). `stepWith` does it, after the
handler. -/
def State.addCycles (s : State) (n : Nat) : State := { s with mcycles := s.mcycles + BitVec.ofNat 64 n }

/-- The end of an instruction that executes, given the state with its effect: PC moves on (R80). No instruction reads PC, so when it
moves inside the step cannot be seen (log entry 6). -/
def finish (fm : Form) (s : State) : Result := .next (s.advance fm)

/-- The state after an Invalid Opcode (R232): PC past the one byte fetched, nothing else changed, the counter included (D11). -/
def State.afterInvalidOpcode (s : State) : State := { s with pc := s.pc + 1 }

/-- TAKING THE EXCEPTION: `raise InvalidOpcode(byte, addr)` (R15, R231). It saves nothing in the machine and goes to no vector
(R233): the failure goes to the caller with the byte, the address it was fetched from, and the state of R232. There is no return
from it to model: the core has no return-from-trap instruction (R238). -/
def raiseInvalidOpcode (op : Byte) (s : State) : Result := .fault (.invalidOpcode op s.pc s.afterInvalidOpcode)

end Sys2Proof.Machine
end

