-- ==== Sys2Proof/Machine/Operands.lean ====
section
/-! DEFINITION. The operand forms: where a load or store finds its byte, HL's change after an access, the second operand of the
ALU, and the ALU's effect on A and F. -/

namespace Sys2Proof.Machine

/-- The address of `(HL)` (R115, R116). -/
def State.addrHL (s : State) : Word := s.pair .hl

/-- The address of `(BC)` (R118, R120). -/
def State.addrBC (s : State) : Word := s.pair .bc

/-- The address of `(DE)` (R119, R121). -/
def State.addrDE (s : State) : Word := s.pair .de

/-- The address of `LDH (C)`: 0xFF00 with register C as the offset (R124, R125). -/
def State.addrHramC (s : State) : Word := hram s.c

/-- HL moved on by 1 after an access, modulo 65536 (R112). -/
def State.incHL (s : State) : State := s.setPair .hl (s.pair .hl + 1)

/-- HL moved back by 1 after an access, modulo 65536 (R112). -/
def State.decHL (s : State) : State := s.setPair .hl (s.pair .hl - 1)

/-- Operand form `A,r` (R190). -/
def State.operandReg (s : State) (r : Reg8) : Byte := s.reg r

/-- Operand form `A,(HL)` (R190). -/
def State.operandHL (s : State) : Byte := s.read8 s.addrHL

/-- `LD HL,SP+e`'s sum: SP plus the signed offset, modulo 65536 (R94, R170). -/
def State.spPlus (s : State) (e : Byte) : Word := s.sp + sext16 e

/-- An ALU result stored in A, its flags in F (R190). -/
def State.storeAlu (s : State) (r : AluResult) : State := (s.setReg .a r.result).setFlags r.flags

/-- The effect of an ALU operation with second operand `b` (R190): ADD, ADC, SUB and SBC write A and F, CP writes F only;
ADC and SBC take the C flag as it was before the instruction (R193). -/
def State.alu (s : State) (op : AluOp) (b : Byte) : State :=
  match op with
  | .add => s.storeAlu (aluAdd s.a b false)
  | .adc => s.storeAlu (aluAdd s.a b (s.flag .c))
  | .sub => s.storeAlu (aluSub s.a b false)
  | .sbc => s.storeAlu (aluSub s.a b (s.flag .c))
  | .cp => s.setFlags (aluSub s.a b false).flags

end Sys2Proof.Machine
end

