-- ==== Sys2Proof/Machine/Alu8.lean ====
section
/-! DEFINITION. The 8-bit arithmetic (spec/42_alu_8bit.md). One meaning per instruction over the operations they share. -/

namespace Sys2Proof.Machine

/-- The register form of an ALU operation (R195, R198, R201, R204, R207). -/
def aluReg (op : AluOp) (r : Reg8) (s : State) : Result := finish (.aluR op r) (s.alu op (s.operandReg r))

/-- The `(HL)` form of an ALU operation (R196, R199, R202, R205, R208). -/
def aluMem (op : AluOp) (s : State) : Result := finish (.aluHL op) (s.alu op s.operandHL)

/-- The immediate form of an ALU operation (R197, R200, R203, R206, R209). -/
def aluImm (op : AluOp) (n : Byte) (s : State) : Result := finish (.aluN op n) (s.alu op n)

/-- `ADD A,B` (R195). -/
def exec_add_a_b (s : State) : Result := aluReg .add .b s

/-- `ADD A,C` (R195). -/
def exec_add_a_c (s : State) : Result := aluReg .add .c s

/-- `ADD A,D` (R195). -/
def exec_add_a_d (s : State) : Result := aluReg .add .d s

/-- `ADD A,E` (R195). -/
def exec_add_a_e (s : State) : Result := aluReg .add .e s

/-- `ADD A,H` (R195). -/
def exec_add_a_h (s : State) : Result := aluReg .add .h s

/-- `ADD A,L` (R195). -/
def exec_add_a_l (s : State) : Result := aluReg .add .l s

/-- `ADD A,(HL)` (R196). -/
def exec_add_a_mhl (s : State) : Result := aluMem .add s

/-- `ADD A,A` (R195). -/
def exec_add_a_a (s : State) : Result := aluReg .add .a s

/-- `ADC A,B` (R198). -/
def exec_adc_a_b (s : State) : Result := aluReg .adc .b s

/-- `ADC A,C` (R198). -/
def exec_adc_a_c (s : State) : Result := aluReg .adc .c s

/-- `ADC A,D` (R198). -/
def exec_adc_a_d (s : State) : Result := aluReg .adc .d s

/-- `ADC A,E` (R198). -/
def exec_adc_a_e (s : State) : Result := aluReg .adc .e s

/-- `ADC A,H` (R198). -/
def exec_adc_a_h (s : State) : Result := aluReg .adc .h s

/-- `ADC A,L` (R198). -/
def exec_adc_a_l (s : State) : Result := aluReg .adc .l s

/-- `ADC A,(HL)` (R199). -/
def exec_adc_a_mhl (s : State) : Result := aluMem .adc s

/-- `ADC A,A` (R198). -/
def exec_adc_a_a (s : State) : Result := aluReg .adc .a s

/-- `SUB A,B` (R201). -/
def exec_sub_a_b (s : State) : Result := aluReg .sub .b s

/-- `SUB A,C` (R201). -/
def exec_sub_a_c (s : State) : Result := aluReg .sub .c s

/-- `SUB A,D` (R201). -/
def exec_sub_a_d (s : State) : Result := aluReg .sub .d s

/-- `SUB A,E` (R201). -/
def exec_sub_a_e (s : State) : Result := aluReg .sub .e s

/-- `SUB A,H` (R201). -/
def exec_sub_a_h (s : State) : Result := aluReg .sub .h s

/-- `SUB A,L` (R201). -/
def exec_sub_a_l (s : State) : Result := aluReg .sub .l s

/-- `SUB A,(HL)` (R202). -/
def exec_sub_a_mhl (s : State) : Result := aluMem .sub s

/-- `SUB A,A` (R201). -/
def exec_sub_a_a (s : State) : Result := aluReg .sub .a s

/-- `SBC A,B` (R204). -/
def exec_sbc_a_b (s : State) : Result := aluReg .sbc .b s

/-- `SBC A,C` (R204). -/
def exec_sbc_a_c (s : State) : Result := aluReg .sbc .c s

/-- `SBC A,D` (R204). -/
def exec_sbc_a_d (s : State) : Result := aluReg .sbc .d s

/-- `SBC A,E` (R204). -/
def exec_sbc_a_e (s : State) : Result := aluReg .sbc .e s

/-- `SBC A,H` (R204). -/
def exec_sbc_a_h (s : State) : Result := aluReg .sbc .h s

/-- `SBC A,L` (R204). -/
def exec_sbc_a_l (s : State) : Result := aluReg .sbc .l s

/-- `SBC A,(HL)` (R205). -/
def exec_sbc_a_mhl (s : State) : Result := aluMem .sbc s

/-- `SBC A,A` (R204). -/
def exec_sbc_a_a (s : State) : Result := aluReg .sbc .a s

/-- `CP A,B` (R207). -/
def exec_cp_a_b (s : State) : Result := aluReg .cp .b s

/-- `CP A,C` (R207). -/
def exec_cp_a_c (s : State) : Result := aluReg .cp .c s

/-- `CP A,D` (R207). -/
def exec_cp_a_d (s : State) : Result := aluReg .cp .d s

/-- `CP A,E` (R207). -/
def exec_cp_a_e (s : State) : Result := aluReg .cp .e s

/-- `CP A,H` (R207). -/
def exec_cp_a_h (s : State) : Result := aluReg .cp .h s

/-- `CP A,L` (R207). -/
def exec_cp_a_l (s : State) : Result := aluReg .cp .l s

/-- `CP A,(HL)` (R208). -/
def exec_cp_a_mhl (s : State) : Result := aluMem .cp s

/-- `CP A,A` (R207). -/
def exec_cp_a_a (s : State) : Result := aluReg .cp .a s

/-- `ADD A,n` (R197). -/
def exec_add_a_n (n : Byte) (s : State) : Result := aluImm .add n s

/-- `ADC A,n` (R200). -/
def exec_adc_a_n (n : Byte) (s : State) : Result := aluImm .adc n s

/-- `SUB A,n` (R203). -/
def exec_sub_a_n (n : Byte) (s : State) : Result := aluImm .sub n s

/-- `SBC A,n` (R206). -/
def exec_sbc_a_n (n : Byte) (s : State) : Result := aluImm .sbc n s

/-- `CP A,n` (R209). -/
def exec_cp_a_n (n : Byte) (s : State) : Result := aluImm .cp n s

end Sys2Proof.Machine
end

