-- ==== Sys2Proof/Machine/Invalid.lean ====
section
/-! DEFINITION. The empty entries of the opcode table (R87; spec/60_exceptions.md). -/

namespace Sys2Proof.Machine

/-- INVALID (R231): dispatch fails, no handler runs. The spec names the outcome: a fault, never a next state (R237). -/
def exec_invalid (op : Byte) (s : State) : Result := raiseInvalidOpcode op s

end Sys2Proof.Machine
end

