-- ==== Sys2Proof/Machine/Load16.lean ====
section
/-! DEFINITION. The 16-bit loads and the stack (spec/41_loads_16bit_stack.md). One meaning per instruction over the operations they share. -/

namespace Sys2Proof.Machine

/-- `LD rr,nn` (R161). -/
def loadPairImm (p : RegDD) (nn : Word) (s : State) : Result := finish (.ldRRNN p nn) (s.setPair p.pair nn)

/-- `PUSH rr` (R163): the pair is read before SP changes. -/
def pushPair (p : RegQQ) (s : State) : Result := finish (.push p) (s.push16 (s.pair p.pair))

/-- `POP rr` (R165) and `POP AF` (R166), whose low byte is masked by the write to F. -/
def popPair (p : RegQQ) (s : State) : Result :=
  let (v, s1) := s.pop16
  finish (.pop p) (s1.setPair p.pair v)

/-- `LD BC,nn` (R161). -/
def exec_ld_bc_nn (nn : Word) (s : State) : Result := loadPairImm .bc nn s

/-- `LD DE,nn` (R161). -/
def exec_ld_de_nn (nn : Word) (s : State) : Result := loadPairImm .de nn s

/-- `LD HL,nn` (R161). -/
def exec_ld_hl_nn (nn : Word) (s : State) : Result := loadPairImm .hl nn s

/-- `LD SP,nn` (R161). -/
def exec_ld_sp_nn (nn : Word) (s : State) : Result := loadPairImm .sp nn s

/-- `POP BC` (R165). -/
def exec_pop_bc (s : State) : Result := popPair .bc s

/-- `PUSH BC` (R163). -/
def exec_push_bc (s : State) : Result := pushPair .bc s

/-- `POP DE` (R165). -/
def exec_pop_de (s : State) : Result := popPair .de s

/-- `PUSH DE` (R163). -/
def exec_push_de (s : State) : Result := pushPair .de s

/-- `POP HL` (R165). -/
def exec_pop_hl (s : State) : Result := popPair .hl s

/-- `PUSH HL` (R163). -/
def exec_push_hl (s : State) : Result := pushPair .hl s

/-- `POP AF` (R166). -/
def exec_pop_af (s : State) : Result := popPair .af s

/-- `PUSH AF` (R163). -/
def exec_push_af (s : State) : Result := pushPair .af s

/-- `LD HL,SP+e` (R170). -/
def exec_ld_hl_spe (e : Byte) (s : State) : Result := finish (.ldHLSPE e) ((s.setPair .hl (s.spPlus e)).setFlags (spOffsetFlags s.sp e))

/-- `LD SP,HL` (R168). -/
def exec_ld_sp_hl (s : State) : Result := finish .ldSPHL (s.setSP (s.pair .hl))

end Sys2Proof.Machine
end

