-- ==== Sys2Proof/Machine/Load8.lean ====
section
/-! DEFINITION. The 8-bit loads (spec/40_loads_8bit.md). One meaning per instruction over the operations they share. -/

namespace Sys2Proof.Machine

/-- `LD r,r'` (R113). -/
def loadRegReg (dst src : Reg8) (s : State) : Result := finish (.ldRR dst src) (s.setReg dst (s.reg src))

/-- `LD r,n` (R114). -/
def loadRegImm (dst : Reg8) (n : Byte) (s : State) : Result := finish (.ldRN dst n) (s.setReg dst n)

/-- `LD r,(HL)` (R115): the address is HL before the write. -/
def loadRegHL (dst : Reg8) (s : State) : Result := finish (.ldRHL dst) (s.setReg dst (s.read8 s.addrHL))

/-- `LD (HL),r` (R116). -/
def storeHLReg (src : Reg8) (s : State) : Result := finish (.ldHLR src) (s.write8 s.addrHL (s.reg src))

/-- A load of A from an address (R118, R119, R122, R124, R126). -/
def loadA (fm : Form) (addr : Word) (s : State) : Result := finish fm (s.setReg .a (s.read8 addr))

/-- A store of A to an address (R120, R121, R123, R125, R127). -/
def storeA (fm : Form) (addr : Word) (s : State) : Result := finish fm (s.write8 addr (s.reg .a))

/-- `LD (BC),A` (R120). -/
def exec_ld_mbc_a (s : State) : Result := storeA .ldBCA s.addrBC s

/-- `LD B,n` (R114). -/
def exec_ld_b_n (n : Byte) (s : State) : Result := loadRegImm .b n s

/-- `LD A,(BC)` (R118). -/
def exec_ld_a_mbc (s : State) : Result := loadA .ldABC s.addrBC s

/-- `LD C,n` (R114). -/
def exec_ld_c_n (n : Byte) (s : State) : Result := loadRegImm .c n s

/-- `LD (DE),A` (R121). -/
def exec_ld_mde_a (s : State) : Result := storeA .ldDEA s.addrDE s

/-- `LD D,n` (R114). -/
def exec_ld_d_n (n : Byte) (s : State) : Result := loadRegImm .d n s

/-- `LD A,(DE)` (R119). -/
def exec_ld_a_mde (s : State) : Result := loadA .ldADE s.addrDE s

/-- `LD E,n` (R114). -/
def exec_ld_e_n (n : Byte) (s : State) : Result := loadRegImm .e n s

/-- `LD (HL+),A` (R130). -/
def exec_ld_mhli_a (s : State) : Result := finish .ldHLIA (s.write8 s.addrHL (s.reg .a)).incHL

/-- `LD H,n` (R114). -/
def exec_ld_h_n (n : Byte) (s : State) : Result := loadRegImm .h n s

/-- `LD A,(HL+)` (R128). -/
def exec_ld_a_mhli (s : State) : Result := finish .ldAHLI (s.setReg .a (s.read8 s.addrHL)).incHL

/-- `LD L,n` (R114). -/
def exec_ld_l_n (n : Byte) (s : State) : Result := loadRegImm .l n s

/-- `LD (HL-),A` (R131). -/
def exec_ld_mhld_a (s : State) : Result := finish .ldHLDA (s.write8 s.addrHL (s.reg .a)).decHL

/-- `LD (HL),n` (R117). -/
def exec_ld_mhl_n (n : Byte) (s : State) : Result := finish (.ldHLN n) (s.write8 s.addrHL n)

/-- `LD A,(HL-)` (R129). -/
def exec_ld_a_mhld (s : State) : Result := finish .ldAHLD (s.setReg .a (s.read8 s.addrHL)).decHL

/-- `LD A,n` (R114). -/
def exec_ld_a_n (n : Byte) (s : State) : Result := loadRegImm .a n s

/-- `LD B,B` (R113). -/
def exec_ld_b_b (s : State) : Result := loadRegReg .b .b s

/-- `LD B,C` (R113). -/
def exec_ld_b_c (s : State) : Result := loadRegReg .b .c s

/-- `LD B,D` (R113). -/
def exec_ld_b_d (s : State) : Result := loadRegReg .b .d s

/-- `LD B,E` (R113). -/
def exec_ld_b_e (s : State) : Result := loadRegReg .b .e s

/-- `LD B,H` (R113). -/
def exec_ld_b_h (s : State) : Result := loadRegReg .b .h s

/-- `LD B,L` (R113). -/
def exec_ld_b_l (s : State) : Result := loadRegReg .b .l s

/-- `LD B,(HL)` (R115). -/
def exec_ld_b_mhl (s : State) : Result := loadRegHL .b s

/-- `LD B,A` (R113). -/
def exec_ld_b_a (s : State) : Result := loadRegReg .b .a s

/-- `LD C,B` (R113). -/
def exec_ld_c_b (s : State) : Result := loadRegReg .c .b s

/-- `LD C,C` (R113). -/
def exec_ld_c_c (s : State) : Result := loadRegReg .c .c s

/-- `LD C,D` (R113). -/
def exec_ld_c_d (s : State) : Result := loadRegReg .c .d s

/-- `LD C,E` (R113). -/
def exec_ld_c_e (s : State) : Result := loadRegReg .c .e s

/-- `LD C,H` (R113). -/
def exec_ld_c_h (s : State) : Result := loadRegReg .c .h s

/-- `LD C,L` (R113). -/
def exec_ld_c_l (s : State) : Result := loadRegReg .c .l s

/-- `LD C,(HL)` (R115). -/
def exec_ld_c_mhl (s : State) : Result := loadRegHL .c s

/-- `LD C,A` (R113). -/
def exec_ld_c_a (s : State) : Result := loadRegReg .c .a s

/-- `LD D,B` (R113). -/
def exec_ld_d_b (s : State) : Result := loadRegReg .d .b s

/-- `LD D,C` (R113). -/
def exec_ld_d_c (s : State) : Result := loadRegReg .d .c s

/-- `LD D,D` (R113). -/
def exec_ld_d_d (s : State) : Result := loadRegReg .d .d s

/-- `LD D,E` (R113). -/
def exec_ld_d_e (s : State) : Result := loadRegReg .d .e s

/-- `LD D,H` (R113). -/
def exec_ld_d_h (s : State) : Result := loadRegReg .d .h s

/-- `LD D,L` (R113). -/
def exec_ld_d_l (s : State) : Result := loadRegReg .d .l s

/-- `LD D,(HL)` (R115). -/
def exec_ld_d_mhl (s : State) : Result := loadRegHL .d s

/-- `LD D,A` (R113). -/
def exec_ld_d_a (s : State) : Result := loadRegReg .d .a s

/-- `LD E,B` (R113). -/
def exec_ld_e_b (s : State) : Result := loadRegReg .e .b s

/-- `LD E,C` (R113). -/
def exec_ld_e_c (s : State) : Result := loadRegReg .e .c s

/-- `LD E,D` (R113). -/
def exec_ld_e_d (s : State) : Result := loadRegReg .e .d s

/-- `LD E,E` (R113). -/
def exec_ld_e_e (s : State) : Result := loadRegReg .e .e s

/-- `LD E,H` (R113). -/
def exec_ld_e_h (s : State) : Result := loadRegReg .e .h s

/-- `LD E,L` (R113). -/
def exec_ld_e_l (s : State) : Result := loadRegReg .e .l s

/-- `LD E,(HL)` (R115). -/
def exec_ld_e_mhl (s : State) : Result := loadRegHL .e s

/-- `LD E,A` (R113). -/
def exec_ld_e_a (s : State) : Result := loadRegReg .e .a s

/-- `LD H,B` (R113). -/
def exec_ld_h_b (s : State) : Result := loadRegReg .h .b s

/-- `LD H,C` (R113). -/
def exec_ld_h_c (s : State) : Result := loadRegReg .h .c s

/-- `LD H,D` (R113). -/
def exec_ld_h_d (s : State) : Result := loadRegReg .h .d s

/-- `LD H,E` (R113). -/
def exec_ld_h_e (s : State) : Result := loadRegReg .h .e s

/-- `LD H,H` (R113). -/
def exec_ld_h_h (s : State) : Result := loadRegReg .h .h s

/-- `LD H,L` (R113). -/
def exec_ld_h_l (s : State) : Result := loadRegReg .h .l s

/-- `LD H,(HL)` (R115). -/
def exec_ld_h_mhl (s : State) : Result := loadRegHL .h s

/-- `LD H,A` (R113). -/
def exec_ld_h_a (s : State) : Result := loadRegReg .h .a s

/-- `LD L,B` (R113). -/
def exec_ld_l_b (s : State) : Result := loadRegReg .l .b s

/-- `LD L,C` (R113). -/
def exec_ld_l_c (s : State) : Result := loadRegReg .l .c s

/-- `LD L,D` (R113). -/
def exec_ld_l_d (s : State) : Result := loadRegReg .l .d s

/-- `LD L,E` (R113). -/
def exec_ld_l_e (s : State) : Result := loadRegReg .l .e s

/-- `LD L,H` (R113). -/
def exec_ld_l_h (s : State) : Result := loadRegReg .l .h s

/-- `LD L,L` (R113). -/
def exec_ld_l_l (s : State) : Result := loadRegReg .l .l s

/-- `LD L,(HL)` (R115). -/
def exec_ld_l_mhl (s : State) : Result := loadRegHL .l s

/-- `LD L,A` (R113). -/
def exec_ld_l_a (s : State) : Result := loadRegReg .l .a s

/-- `LD (HL),B` (R116). -/
def exec_ld_mhl_b (s : State) : Result := storeHLReg .b s

/-- `LD (HL),C` (R116). -/
def exec_ld_mhl_c (s : State) : Result := storeHLReg .c s

/-- `LD (HL),D` (R116). -/
def exec_ld_mhl_d (s : State) : Result := storeHLReg .d s

/-- `LD (HL),E` (R116). -/
def exec_ld_mhl_e (s : State) : Result := storeHLReg .e s

/-- `LD (HL),H` (R116). -/
def exec_ld_mhl_h (s : State) : Result := storeHLReg .h s

/-- `LD (HL),L` (R116). -/
def exec_ld_mhl_l (s : State) : Result := storeHLReg .l s

/-- `LD (HL),A` (R116). -/
def exec_ld_mhl_a (s : State) : Result := storeHLReg .a s

/-- `LD A,B` (R113). -/
def exec_ld_a_b (s : State) : Result := loadRegReg .a .b s

/-- `LD A,C` (R113). -/
def exec_ld_a_c (s : State) : Result := loadRegReg .a .c s

/-- `LD A,D` (R113). -/
def exec_ld_a_d (s : State) : Result := loadRegReg .a .d s

/-- `LD A,E` (R113). -/
def exec_ld_a_e (s : State) : Result := loadRegReg .a .e s

/-- `LD A,H` (R113). -/
def exec_ld_a_h (s : State) : Result := loadRegReg .a .h s

/-- `LD A,L` (R113). -/
def exec_ld_a_l (s : State) : Result := loadRegReg .a .l s

/-- `LD A,(HL)` (R115). -/
def exec_ld_a_mhl (s : State) : Result := loadRegHL .a s

/-- `LD A,A` (R113). -/
def exec_ld_a_a (s : State) : Result := loadRegReg .a .a s

/-- `LDH (n),A` (R127). -/
def exec_ldh_mn_a (n : Byte) (s : State) : Result := storeA (.ldhNA n) (hram n) s

/-- `LDH (C),A` (R125). -/
def exec_ldh_mc_a (s : State) : Result := storeA .ldhCA s.addrHramC s

/-- `LD (nn),A` (R123). -/
def exec_ld_mnn_a (nn : Word) (s : State) : Result := storeA (.ldNNA nn) nn s

/-- `LDH A,(n)` (R126). -/
def exec_ldh_a_mn (n : Byte) (s : State) : Result := loadA (.ldhAN n) (hram n) s

/-- `LDH A,(C)` (R124). -/
def exec_ldh_a_mc (s : State) : Result := loadA .ldhAC s.addrHramC s

/-- `LD A,(nn)` (R122). -/
def exec_ld_a_mnn (nn : Word) (s : State) : Result := loadA (.ldANN nn) nn s

end Sys2Proof.Machine
end

