-- ==== Sys2Proof/Machine/Dispatch.lean ====
section
/-! DEFINITION. Dispatch (R80, step 3): one arm per constructor of Instr. -/

namespace Sys2Proof.Machine

def exec (i : Instr) (s : State) : Host.Outcome State Fault Refusal :=
  match i with
  | .ld_bc_nn nn => Sys2Proof.Machine.exec_ld_bc_nn nn s
  | .ld_mbc_a => Sys2Proof.Machine.exec_ld_mbc_a s
  | .ld_b_n n => Sys2Proof.Machine.exec_ld_b_n n s
  | .ld_a_mbc => Sys2Proof.Machine.exec_ld_a_mbc s
  | .ld_c_n n => Sys2Proof.Machine.exec_ld_c_n n s
  | .ld_de_nn nn => Sys2Proof.Machine.exec_ld_de_nn nn s
  | .ld_mde_a => Sys2Proof.Machine.exec_ld_mde_a s
  | .ld_d_n n => Sys2Proof.Machine.exec_ld_d_n n s
  | .ld_a_mde => Sys2Proof.Machine.exec_ld_a_mde s
  | .ld_e_n n => Sys2Proof.Machine.exec_ld_e_n n s
  | .ld_hl_nn nn => Sys2Proof.Machine.exec_ld_hl_nn nn s
  | .ld_mhli_a => Sys2Proof.Machine.exec_ld_mhli_a s
  | .ld_h_n n => Sys2Proof.Machine.exec_ld_h_n n s
  | .ld_a_mhli => Sys2Proof.Machine.exec_ld_a_mhli s
  | .ld_l_n n => Sys2Proof.Machine.exec_ld_l_n n s
  | .ld_sp_nn nn => Sys2Proof.Machine.exec_ld_sp_nn nn s
  | .ld_mhld_a => Sys2Proof.Machine.exec_ld_mhld_a s
  | .ld_mhl_n n => Sys2Proof.Machine.exec_ld_mhl_n n s
  | .ld_a_mhld => Sys2Proof.Machine.exec_ld_a_mhld s
  | .ld_a_n n => Sys2Proof.Machine.exec_ld_a_n n s
  | .ld_b_b => Sys2Proof.Machine.exec_ld_b_b s
  | .ld_b_c => Sys2Proof.Machine.exec_ld_b_c s
  | .ld_b_d => Sys2Proof.Machine.exec_ld_b_d s
  | .ld_b_e => Sys2Proof.Machine.exec_ld_b_e s
  | .ld_b_h => Sys2Proof.Machine.exec_ld_b_h s
  | .ld_b_l => Sys2Proof.Machine.exec_ld_b_l s
  | .ld_b_mhl => Sys2Proof.Machine.exec_ld_b_mhl s
  | .ld_b_a => Sys2Proof.Machine.exec_ld_b_a s
  | .ld_c_b => Sys2Proof.Machine.exec_ld_c_b s
  | .ld_c_c => Sys2Proof.Machine.exec_ld_c_c s
  | .ld_c_d => Sys2Proof.Machine.exec_ld_c_d s
  | .ld_c_e => Sys2Proof.Machine.exec_ld_c_e s
  | .ld_c_h => Sys2Proof.Machine.exec_ld_c_h s
  | .ld_c_l => Sys2Proof.Machine.exec_ld_c_l s
  | .ld_c_mhl => Sys2Proof.Machine.exec_ld_c_mhl s
  | .ld_c_a => Sys2Proof.Machine.exec_ld_c_a s
  | .ld_d_b => Sys2Proof.Machine.exec_ld_d_b s
  | .ld_d_c => Sys2Proof.Machine.exec_ld_d_c s
  | .ld_d_d => Sys2Proof.Machine.exec_ld_d_d s
  | .ld_d_e => Sys2Proof.Machine.exec_ld_d_e s
  | .ld_d_h => Sys2Proof.Machine.exec_ld_d_h s
  | .ld_d_l => Sys2Proof.Machine.exec_ld_d_l s
  | .ld_d_mhl => Sys2Proof.Machine.exec_ld_d_mhl s
  | .ld_d_a => Sys2Proof.Machine.exec_ld_d_a s
  | .ld_e_b => Sys2Proof.Machine.exec_ld_e_b s
  | .ld_e_c => Sys2Proof.Machine.exec_ld_e_c s
  | .ld_e_d => Sys2Proof.Machine.exec_ld_e_d s
  | .ld_e_e => Sys2Proof.Machine.exec_ld_e_e s
  | .ld_e_h => Sys2Proof.Machine.exec_ld_e_h s
  | .ld_e_l => Sys2Proof.Machine.exec_ld_e_l s
  | .ld_e_mhl => Sys2Proof.Machine.exec_ld_e_mhl s
  | .ld_e_a => Sys2Proof.Machine.exec_ld_e_a s
  | .ld_h_b => Sys2Proof.Machine.exec_ld_h_b s
  | .ld_h_c => Sys2Proof.Machine.exec_ld_h_c s
  | .ld_h_d => Sys2Proof.Machine.exec_ld_h_d s
  | .ld_h_e => Sys2Proof.Machine.exec_ld_h_e s
  | .ld_h_h => Sys2Proof.Machine.exec_ld_h_h s
  | .ld_h_l => Sys2Proof.Machine.exec_ld_h_l s
  | .ld_h_mhl => Sys2Proof.Machine.exec_ld_h_mhl s
  | .ld_h_a => Sys2Proof.Machine.exec_ld_h_a s
  | .ld_l_b => Sys2Proof.Machine.exec_ld_l_b s
  | .ld_l_c => Sys2Proof.Machine.exec_ld_l_c s
  | .ld_l_d => Sys2Proof.Machine.exec_ld_l_d s
  | .ld_l_e => Sys2Proof.Machine.exec_ld_l_e s
  | .ld_l_h => Sys2Proof.Machine.exec_ld_l_h s
  | .ld_l_l => Sys2Proof.Machine.exec_ld_l_l s
  | .ld_l_mhl => Sys2Proof.Machine.exec_ld_l_mhl s
  | .ld_l_a => Sys2Proof.Machine.exec_ld_l_a s
  | .ld_mhl_b => Sys2Proof.Machine.exec_ld_mhl_b s
  | .ld_mhl_c => Sys2Proof.Machine.exec_ld_mhl_c s
  | .ld_mhl_d => Sys2Proof.Machine.exec_ld_mhl_d s
  | .ld_mhl_e => Sys2Proof.Machine.exec_ld_mhl_e s
  | .ld_mhl_h => Sys2Proof.Machine.exec_ld_mhl_h s
  | .ld_mhl_l => Sys2Proof.Machine.exec_ld_mhl_l s
  | .ld_mhl_a => Sys2Proof.Machine.exec_ld_mhl_a s
  | .ld_a_b => Sys2Proof.Machine.exec_ld_a_b s
  | .ld_a_c => Sys2Proof.Machine.exec_ld_a_c s
  | .ld_a_d => Sys2Proof.Machine.exec_ld_a_d s
  | .ld_a_e => Sys2Proof.Machine.exec_ld_a_e s
  | .ld_a_h => Sys2Proof.Machine.exec_ld_a_h s
  | .ld_a_l => Sys2Proof.Machine.exec_ld_a_l s
  | .ld_a_mhl => Sys2Proof.Machine.exec_ld_a_mhl s
  | .ld_a_a => Sys2Proof.Machine.exec_ld_a_a s
  | .add_a_b => Sys2Proof.Machine.exec_add_a_b s
  | .add_a_c => Sys2Proof.Machine.exec_add_a_c s
  | .add_a_d => Sys2Proof.Machine.exec_add_a_d s
  | .add_a_e => Sys2Proof.Machine.exec_add_a_e s
  | .add_a_h => Sys2Proof.Machine.exec_add_a_h s
  | .add_a_l => Sys2Proof.Machine.exec_add_a_l s
  | .add_a_mhl => Sys2Proof.Machine.exec_add_a_mhl s
  | .add_a_a => Sys2Proof.Machine.exec_add_a_a s
  | .adc_a_b => Sys2Proof.Machine.exec_adc_a_b s
  | .adc_a_c => Sys2Proof.Machine.exec_adc_a_c s
  | .adc_a_d => Sys2Proof.Machine.exec_adc_a_d s
  | .adc_a_e => Sys2Proof.Machine.exec_adc_a_e s
  | .adc_a_h => Sys2Proof.Machine.exec_adc_a_h s
  | .adc_a_l => Sys2Proof.Machine.exec_adc_a_l s
  | .adc_a_mhl => Sys2Proof.Machine.exec_adc_a_mhl s
  | .adc_a_a => Sys2Proof.Machine.exec_adc_a_a s
  | .sub_a_b => Sys2Proof.Machine.exec_sub_a_b s
  | .sub_a_c => Sys2Proof.Machine.exec_sub_a_c s
  | .sub_a_d => Sys2Proof.Machine.exec_sub_a_d s
  | .sub_a_e => Sys2Proof.Machine.exec_sub_a_e s
  | .sub_a_h => Sys2Proof.Machine.exec_sub_a_h s
  | .sub_a_l => Sys2Proof.Machine.exec_sub_a_l s
  | .sub_a_mhl => Sys2Proof.Machine.exec_sub_a_mhl s
  | .sub_a_a => Sys2Proof.Machine.exec_sub_a_a s
  | .sbc_a_b => Sys2Proof.Machine.exec_sbc_a_b s
  | .sbc_a_c => Sys2Proof.Machine.exec_sbc_a_c s
  | .sbc_a_d => Sys2Proof.Machine.exec_sbc_a_d s
  | .sbc_a_e => Sys2Proof.Machine.exec_sbc_a_e s
  | .sbc_a_h => Sys2Proof.Machine.exec_sbc_a_h s
  | .sbc_a_l => Sys2Proof.Machine.exec_sbc_a_l s
  | .sbc_a_mhl => Sys2Proof.Machine.exec_sbc_a_mhl s
  | .sbc_a_a => Sys2Proof.Machine.exec_sbc_a_a s
  | .cp_a_b => Sys2Proof.Machine.exec_cp_a_b s
  | .cp_a_c => Sys2Proof.Machine.exec_cp_a_c s
  | .cp_a_d => Sys2Proof.Machine.exec_cp_a_d s
  | .cp_a_e => Sys2Proof.Machine.exec_cp_a_e s
  | .cp_a_h => Sys2Proof.Machine.exec_cp_a_h s
  | .cp_a_l => Sys2Proof.Machine.exec_cp_a_l s
  | .cp_a_mhl => Sys2Proof.Machine.exec_cp_a_mhl s
  | .cp_a_a => Sys2Proof.Machine.exec_cp_a_a s
  | .pop_bc => Sys2Proof.Machine.exec_pop_bc s
  | .push_bc => Sys2Proof.Machine.exec_push_bc s
  | .add_a_n n => Sys2Proof.Machine.exec_add_a_n n s
  | .adc_a_n n => Sys2Proof.Machine.exec_adc_a_n n s
  | .pop_de => Sys2Proof.Machine.exec_pop_de s
  | .push_de => Sys2Proof.Machine.exec_push_de s
  | .sub_a_n n => Sys2Proof.Machine.exec_sub_a_n n s
  | .sbc_a_n n => Sys2Proof.Machine.exec_sbc_a_n n s
  | .ldh_mn_a n => Sys2Proof.Machine.exec_ldh_mn_a n s
  | .pop_hl => Sys2Proof.Machine.exec_pop_hl s
  | .ldh_mc_a => Sys2Proof.Machine.exec_ldh_mc_a s
  | .push_hl => Sys2Proof.Machine.exec_push_hl s
  | .ld_mnn_a nn => Sys2Proof.Machine.exec_ld_mnn_a nn s
  | .ldh_a_mn n => Sys2Proof.Machine.exec_ldh_a_mn n s
  | .pop_af => Sys2Proof.Machine.exec_pop_af s
  | .ldh_a_mc => Sys2Proof.Machine.exec_ldh_a_mc s
  | .push_af => Sys2Proof.Machine.exec_push_af s
  | .ld_hl_spe e => Sys2Proof.Machine.exec_ld_hl_spe e s
  | .ld_sp_hl => Sys2Proof.Machine.exec_ld_sp_hl s
  | .ld_a_mnn nn => Sys2Proof.Machine.exec_ld_a_mnn nn s
  | .cp_a_n n => Sys2Proof.Machine.exec_cp_a_n n s
  | .invalid op => Sys2Proof.Machine.exec_invalid op s

end Sys2Proof.Machine
end

