-- ==== Sys2Proof/Machine/Fetch.lean ====
section
/-! DEFINITION. Fetching an instruction's bytes (R80 steps 1 and 2, R82, R91, R93). -/

namespace Sys2Proof.Machine

/-- The instruction at PC and the state with PC past its bytes: the opcode by `fetch8()`, then the immediate its format takes, by
`fetch8()` or `fetch16()`, and no other byte (R59, R82). After an opcode with an empty entry nothing is fetched (R88, R232). -/
def fetchInstr (s : State) : Instr × State :=
  let (op, s1) := s.fetch8
  match opcodeMap op with
  | .plain i => (i, s1)
  | .imm8 k =>
    let (n, s2) := s1.fetch8
    (k n, s2)
  | .imm16 k =>
    let (nn, s2) := s1.fetch16
    (k nn, s2)

/-- The `n` bytes of memory from an address on, addresses modulo 65536. -/
def State.bytesFrom (s : State) (addr : Word) : Nat → List Byte
  | 0 => []
  | n + 1 => s.read8 addr :: State.bytesFrom s (addr + 1) n

/-- Bytes stored at an address and the following ones, modulo 65536. -/
def State.storeBytes (s : State) (addr : Word) : List Byte → State
  | [] => s
  | v :: rest => State.storeBytes (s.write8 addr v) (addr + 1) rest

end Sys2Proof.Machine
end

