-- ==== Sys2Proof/Machine/StepWith.lean ====
section
/-! DEFINITION. One `step()` (R80) under a given `MCYCLES` table, the model's open parameter (R98, D10). -/

namespace Sys2Proof.Machine

/-- One `step()` (R80): the instruction at PC is executed at this state, then step 5 adds the machine cycles that the table holds for its
opcode byte. A step that fails does not come to step 5 (R232; D11). -/
def stepWith (mc : CycleTable) (s : State) : Result :=
  match exec (fetchInstr s).1 s with
  | .next t => .next (t.addCycles (mc (s.read8 s.pc)))
  | .fault r => .fault r
  | .refused r => .refused r

end Sys2Proof.Machine
end

