-- ==== Sys2Proof/Machine/Step.lean ====
section
/-! DEFINITION. The step of the launch with the default `MCYCLES` table, and where the host's words are placed. -/

namespace Sys2Proof.Machine

/-- One `step()` (R80) with the default `MCYCLES` of R98. A launch with another table is `stepWith` of it (log entry 3). -/
def step (s : State) : Host.Outcome State Fault Refusal := stepWith defaultCycles s

/-- `s` with an instruction of the host's opcode table stored where `step` fetches next, at PC: three bytes, the longest instruction
(R82), zeros above `nbits`. A program is placed by the host in just this way, byte by byte (R264; log entry 2). -/
def State.withFetchWord (s : State) (nbits w : Nat) : State :=
  s.storeBytes s.pc [tableByte nbits w 0, tableByte nbits w 1, tableByte nbits w 2]

end Sys2Proof.Machine
end

