-- ==== Sys2Proof/Machine/HostInterface.lean ====
section
/-! DEFINITION. What the host may do, and what it gets back (R255): launch with its two open parameters, construct, read and write a
byte of the bus between steps, step, query, go on after a failure. It has no move that writes a register (D21), and none during a
step (R62). -/

namespace Sys2Proof.Machine

/-- The Register File as `get_state()` gives it (R246); the pairs are views over it, `RegisterFile.pair`. -/
structure RegisterFile where
  a : Byte
  f : Byte
  b : Byte
  c : Byte
  d : Byte
  e : Byte
  h : Byte
  l : Byte
  sp : Word
  pc : Word
deriving DecidableEq, Repr

/-- The pair views over the Register File (R22, R246): AF, BC, DE, HL; and SP. -/
def RegisterFile.pair (r : RegisterFile) : Pair → Word
  | .af => join r.a r.f
  | .bc => join r.b r.c
  | .de => join r.d r.e
  | .hl => join r.h r.l
  | .sp => r.sp

/-- `get_state()` (R246): it changes nothing. -/
def getState (s : State) : RegisterFile :=
  { a := s.a, f := s.f, b := s.b, c := s.c, d := s.d, e := s.e, h := s.h, l := s.l, sp := s.sp, pc := s.pc }

/-- `get_mcycle_count()` (R245). -/
def getMcycleCount (s : State) : Counter := s.mcycles

/-- `Sm83::new(bus)` (R247): the Register File and the counter as R35 and R36 say, the bus untouched (R260), its contents being the
launch parameter `MEM0` (R56). -/
def construct (mem0 : Memory) : State := { State.reset with mem := mem0 }

/-- The host reads a byte of the bus (R255). -/
def hostRead (s : State) (addr : Word) : Byte := s.read8 addr

/-- The host writes a byte of the bus between steps (R255); the next fetch sees it (R64). -/
def hostWrite (s : State) (addr : Word) (v : Byte) : State := s.write8 addr v

/-- The machine of a launch: its `MCYCLES` table (R98, D10) and its `MEM0` (R56, D13). -/
def launch (mc : CycleTable) (mem0 : Memory) : Host.Core where
  State := State
  Fault := Fault
  Refusal := Refusal
  step := stepWith mc
  reset := construct mem0

/-- What a host does next (R255): calls `step()`, or writes a byte of the bus. Its reads and queries change nothing. -/
inductive HostMove where
  | step
  | write (addr : Word) (v : Byte)
deriving DecidableEq, Repr

/-- What is observed of a run: the state, and every Invalid Opcode so far, byte and address, in order (R237). The record is the
observation's; the core holds none (R236). -/
structure Observation where
  state : State
  faults : List (Byte × Word)
deriving DecidableEq, Repr

/-- One move. After an Invalid Opcode a host that goes on does so from the state of R232, and the fault stays recorded, whatever it
does next (R236, R237). -/
def hostMove (mc : CycleTable) (o : Observation) : HostMove → Observation
  | .write addr v => { o with state := hostWrite o.state addr v }
  | .step =>
    match stepWith mc o.state with
    | .next t => { o with state := t }
    | .fault (.invalidOpcode op addr t) => { state := t, faults := o.faults ++ [(op, addr)] }
    | .refused _ => o

/-- A run: the host's moves, one after the other. -/
def hostRun (mc : CycleTable) (moves : List HostMove) (o : Observation) : Observation := moves.foldl (hostMove mc) o

end Sys2Proof.Machine
end

