-- ==== Sys2Proof/Machine/Observe.lean ====
section
/-! DEFINITION. What a step puts out besides its outcome: the observer's event (R250) and the bus accesses in their order (R60).
Neither is state and neither changes the step (R251; log entry 7). -/

namespace Sys2Proof.Machine

/-- One event per step (R250; D19). -/
structure TraceEvent where
  addr : Word
  op : Byte
  mnemonic : Option String
  ok : Bool
deriving DecidableEq, Repr

/-- The event of the step from `s`: PC before the increment, the opcode byte, the table's mnemonic, and `ok = false` with no mnemonic
for an empty entry (R250). -/
def traceEvent (s : State) : TraceEvent :=
  let op := s.read8 s.pc
  let name := opcodeMnemonic op
  { addr := s.pc, op := op, mnemonic := name, ok := name.isSome }

/-- One bus access (R60): F, R or W. -/
inductive BusAccess where
  | fetch (addr : Word)
  | read (addr : Word)
  | write (addr : Word) (v : Byte)
deriving DecidableEq, Repr

/-- The fetches: the instruction's bytes at increasing addresses (R59, R60). -/
def fetches (addr : Word) : Nat → List BusAccess
  | 0 => []
  | n + 1 => .fetch addr :: fetches (addr + 1) n

/-- The data accesses of a form, in the order of R60's table. -/
def dataAccesses (s : State) : Form → List BusAccess
  | .ldRR _ _ | .ldRN _ _ | .ldRRNN _ _ | .ldSPHL | .ldHLSPE _ | .aluR _ _ | .aluN _ _ | .invalid _ => []
  | .ldRHL _ | .aluHL _ | .ldAHLI | .ldAHLD => [.read s.addrHL]
  | .ldHLR src => [.write s.addrHL (s.reg src)]
  | .ldHLN n => [.write s.addrHL n]
  | .ldABC => [.read s.addrBC]
  | .ldADE => [.read s.addrDE]
  | .ldBCA => [.write s.addrBC s.a]
  | .ldDEA => [.write s.addrDE s.a]
  | .ldANN nn => [.read nn]
  | .ldNNA nn => [.write nn s.a]
  | .ldhAC => [.read s.addrHramC]
  | .ldhCA => [.write s.addrHramC s.a]
  | .ldhAN n => [.read (hram n)]
  | .ldhNA n => [.write (hram n) s.a]
  | .ldHLIA | .ldHLDA => [.write s.addrHL s.a]
  | .push p => [.write (s.sp - 1) (hiByte (s.pair p.pair)), .write (s.sp - 2) (loByte (s.pair p.pair))]
  | .pop _ => [.read s.sp, .read (s.sp + 1)]

/-- The bus accesses of the step from `s` (R60): every fetch, then the data accesses. -/
def busTrace (s : State) : List BusAccess :=
  let fm := (fetchInstr s).1.form
  fetches s.pc fm.length ++ dataAccesses s fm

end Sys2Proof.Machine
end

