-- ==== Sys2Proof/Safety.lean ====
section
/-! DEFINITION. The terms the statements are written in: what stays the same over an instruction, the invariant, the states a run with
its host can reach, and what a run adds up. -/

namespace Sys2Proof.Machine

/-- Every byte of memory reads as before. -/
def SameMemory (s t : State) : Prop := ∀ addr : Word, t.read8 addr = s.read8 addr

/-- Every byte of memory outside `addrs` reads as before. -/
def SameMemoryExcept (addrs : List Word) (s t : State) : Prop :=
  ∀ addr : Word, addr ∉ addrs → t.read8 addr = s.read8 addr

/-- Every 8-bit register a field can name, but those in `rs`, is unchanged. -/
def SameRegsExcept (rs : List Reg8) (s t : State) : Prop := ∀ r : Reg8, r ∉ rs → t.reg r = s.reg r

/-- F, all eight bits, is unchanged. -/
def SameF (s t : State) : Prop := t.f = s.f

/-- SP is unchanged. -/
def SameSP (s t : State) : Prop := t.sp = s.sp

/-- PC has moved on by `len` bytes, modulo 65536 (R30, R31), and the counter is as it was: step 5 of R80 adds to it after the
instruction (`RunAddsTheCyclesOfItsOpcodes`). -/
def Retired (len : Nat) (s t : State) : Prop :=
  t.pc = s.pc + BitVec.ofNat 16 len ∧ t.mcycles = s.mcycles

/-- The 8-bit registers a `dd` register is made of (R22). -/
def halvesDD : RegDD → List Reg8
  | .bc => [.b, .c] | .de => [.d, .e] | .hl => [.h, .l] | .sp => []

/-- The 8-bit registers a `qq` pair is made of, F apart (R22). -/
def halvesQQ : RegQQ → List Reg8
  | .bc => [.b, .c] | .de => [.d, .e] | .hl => [.h, .l] | .af => [.a]

/-- `i` is the ALU operation `op` in one of its three forms, of `len` bytes, and `b` is its second operand at `s` (R190). -/
def AluOperand (op : AluOp) (i : Instr) (s : State) (b : Byte) (len : Nat) : Prop :=
  (∃ r : Reg8, i.form = .aluR op r ∧ b = s.reg r ∧ len = 1) ∨
  (i.form = .aluHL op ∧ b = s.read8 (s.pair .hl) ∧ len = 1) ∨
  (i.form = .aluN op b ∧ len = 2)

/-- F holds these four flags and zeros in bits 3 to 0 (R25, R26). -/
def FlagsAre (t : State) (z n h c : Bool) : Prop :=
  t.flag .z = z ∧ t.flag .n = n ∧ t.flag .h = h ∧ t.flag .c = c ∧ t.f &&& 0x0F#8 = 0#8

/-- The invariant: memory is in its canonical form, and F[3:0] is zero (R26). -/
def Inv (s : State) : Prop := s.mem.wf ∧ s.f &&& 0x0F#8 = 0#8

/-- The states of the runs that claims are stated over (R237): from construction over any contents of the bus, by steps and bytes the
host writes (R255), with no fault recorded. -/
def Reachable (mc : CycleTable) (s : State) : Prop :=
  ∃ (mem0 : Memory) (moves : List HostMove), mem0.wf ∧ hostRun mc moves ⟨construct mem0, []⟩ = ⟨s, []⟩

/-- The sum of `MCYCLES` over the opcodes of up to `k` steps from `s`, as long as they succeed (R269). -/
def cyclesOfRun (mc : CycleTable) : Nat → State → Nat
  | 0, _ => 0
  | k + 1, s =>
    match stepWith mc s with
    | .next t => mc (s.read8 s.pc) + cyclesOfRun mc k t
    | .fault _ => 0
    | .refused _ => 0

/-- A list of bus accesses applied to memory: each W stores its byte, in order (R52, R60). -/
def applyAccesses : List BusAccess → State → State
  | [], s => s
  | .write addr v :: rest, s => applyAccesses rest (s.write8 addr v)
  | .fetch _ :: rest, s => applyAccesses rest s
  | .read _ :: rest, s => applyAccesses rest s

/-- The forms that write F (R27). -/
def writesFlags : Form → Bool
  | .aluR _ _ | .aluHL _ | .aluN _ _ | .ldHLSPE _ | .pop .af => true
  | .ldRR _ _ | .ldRN _ _ | .ldRHL _ | .ldHLR _ | .ldHLN _ | .ldABC | .ldADE | .ldBCA | .ldDEA
  | .ldANN _ | .ldNNA _ | .ldhAC | .ldhCA | .ldhAN _ | .ldhNA _ | .ldAHLI | .ldAHLD | .ldHLIA | .ldHLDA
  | .ldRRNN _ _ | .push _ | .pop _ | .ldSPHL | .invalid _ => false

/-- The forms that read F (R27): ADC and SBC its C flag, PUSH AF all of it. -/
def readsFlags : Form → Bool
  | .aluR .adc _ | .aluR .sbc _ | .aluHL .adc | .aluHL .sbc | .aluN .adc _ | .aluN .sbc _ | .push .af => true
  | .aluR _ _ | .aluHL _ | .aluN _ _ | .ldRR _ _ | .ldRN _ _ | .ldRHL _ | .ldHLR _ | .ldHLN _ | .ldABC | .ldADE
  | .ldBCA | .ldDEA | .ldANN _ | .ldNNA _ | .ldhAC | .ldhCA | .ldhAN _ | .ldhNA _ | .ldAHLI | .ldAHLD | .ldHLIA
  | .ldHLDA | .ldRRNN _ _ | .push _ | .pop _ | .ldSPHL | .ldHLSPE _ | .invalid _ => false

/-- The forms that write SP (R29). -/
def writesSP : Form → Bool
  | .ldRRNN .sp _ | .ldSPHL | .push _ | .pop _ => true
  | .ldRR _ _ | .ldRN _ _ | .ldRHL _ | .ldHLR _ | .ldHLN _ | .ldABC | .ldADE | .ldBCA | .ldDEA
  | .ldANN _ | .ldNNA _ | .ldhAC | .ldhCA | .ldhAN _ | .ldhNA _ | .ldAHLI | .ldAHLD | .ldHLIA | .ldHLDA
  | .ldRRNN _ _ | .ldHLSPE _ | .aluR _ _ | .aluHL _ | .aluN _ _ | .invalid _ => false

end Sys2Proof.Machine
end

