-- ==== Sys2Proof/Certificates/Slice0/Obligations.lean ====
section
/-! DEFINITION. The statements for the provers. Instructions are named by their form (`EveryFormIsOneInstruction`: each form is one
instruction); a statement of an instruction's result has its completion, its result and its frame in one, and says that the
instruction leaves the counter alone; the step adds the counts of a `CycleTable`, and every statement about the step is for every table. -/

open Sys2Proof Sys2Proof.Machine

/-- R35, R36, R261, and R260 (the bus is untouched): the values after construction, for every `MEM0`; R255 and D21 (a host write is no register write). That `State.reset` lists no byte, and so that `core` is the launch it is said to be, is the model's choice (log entries 1 and 3), no rule of the spec. -/
def Obligations.ConstructionGivesPostBootState : Prop :=
  (∀ mem0 : Memory,
    let s := construct mem0
    s.a = 0x01 ∧ s.f = 0xB0 ∧ s.b = 0x00 ∧ s.c = 0x13 ∧ s.d = 0x00 ∧ s.e = 0xD8 ∧ s.h = 0x01 ∧ s.l = 0x4D ∧
    s.sp = 0xFFFE ∧ s.pc = 0x0100 ∧
    s.pair .af = 0x01B0 ∧ s.pair .bc = 0x0013 ∧ s.pair .de = 0x00D8 ∧ s.pair .hl = 0x014D ∧
    FlagsAre s true false true true ∧
    s.mcycles = 0 ∧ s.mem = mem0 ∧ (busTrace s).head? = some (.fetch 0x0100)) ∧
  State.reset = construct [] ∧ Sys2Proof.core = launch defaultCycles [] ∧
  (∀ (s : State) (addr : Word) (v : Byte), getState (hostWrite s addr v) = getState s)

/-- The invariant of `EveryStepKeepsInvariant` holds where a run begins. The canonical form is the model's (State is plain data). -/
def Obligations.ConstructionMeetsInvariant : Prop :=
  Inv State.reset ∧ ∀ mem0 : Memory, mem0.wf → Inv (construct mem0)

/-- R26 (bits 3 to 0 of F are always zero) together with the canonical form of memory, from EVERY state that meets them, not only from runs. -/
def Obligations.EveryStepKeepsInvariant : Prop :=
  (∀ s t : State, Inv s → step s = .next t → Inv t) ∧
  (∀ (mc : CycleTable) (s t : State), Inv s → stepWith mc s = .next t → Inv t) ∧
  (∀ (mc : CycleTable) (s t : State) (op : Byte) (addr : Word),
    Inv s → stepWith mc s = .fault (.invalidOpcode op addr t) → Inv t) ∧
  (∀ (s : State) (addr : Word) (v : Byte), Inv s → Inv (hostWrite s addr v))

/-- R26, over the runs claims are stated over (R237): from any contents of the bus, under any MCYCLES table, with bytes the host writes between steps (R255) and no fault recorded. -/
def Obligations.FlagLowNibbleZeroInReachableStates : Prop :=
  (∀ (s : State) (v : Byte), (s.writeF v).f = v &&& 0xF0#8) ∧
  (∀ (mc : CycleTable) (s : State), Reachable mc s → s.f &&& 0x0F#8 = 0#8 ∧ s.pair .af &&& 0x000F#16 = 0#16)

/-- R22 (the reading, as a number), R23, R24. That B and D are the high halves is what R22 marks as general knowledge, not in the source. -/
def Obligations.PairsAndHalvesAreOneStorage : Prop :=
  ∀ (s : State) (v : Word) (x : Byte),
    (s.pair .af).toNat = s.a.toNat * 256 + s.f.toNat ∧ (s.pair .bc).toNat = s.b.toNat * 256 + s.c.toNat ∧
    (s.pair .de).toNat = s.d.toNat * 256 + s.e.toNat ∧ (s.pair .hl).toNat = s.h.toNat * 256 + s.l.toNat ∧
    s.setPair .bc v = { s with b := v.extractLsb' 8 8, c := v.extractLsb' 0 8 } ∧
    s.setPair .de v = { s with d := v.extractLsb' 8 8, e := v.extractLsb' 0 8 } ∧
    s.setPair .hl v = { s with h := v.extractLsb' 8 8, l := v.extractLsb' 0 8 } ∧
    s.setPair .af v = { s with a := v.extractLsb' 8 8, f := v.extractLsb' 0 8 &&& 0xF0#8 } ∧
    (∀ p : Pair, p ≠ .af → (s.setPair p v).pair p = v) ∧
    ((s.setReg .b x).pair .bc).toNat = x.toNat * 256 + s.c.toNat ∧
    ((s.setReg .c x).pair .bc).toNat = s.b.toNat * 256 + x.toNat ∧
    ((s.setReg .d x).pair .de).toNat = x.toNat * 256 + s.e.toNat ∧
    ((s.setReg .e x).pair .de).toNat = s.d.toNat * 256 + x.toNat ∧
    ((s.setReg .h x).pair .hl).toNat = x.toNat * 256 + s.l.toNat ∧
    ((s.setReg .l x).pair .hl).toNat = s.h.toNat * 256 + x.toNat ∧
    ((s.setReg .a x).pair .af).toNat = x.toNat * 256 + s.f.toNat

/-- R28 in the reading conflict C3 gives it. -/
def Obligations.FlagFieldRoundTrip : Prop :=
  (∀ (f : Byte) (v : BitVec 4), readFlagField (writeFlagField f v) = v ∧
    ∀ k, k < 4 → (writeFlagField f v).getLsbD k = f.getLsbD k) ∧
  (∀ (f : Byte) (x : Flag) (v : Bool), readFlag (writeFlag f x v) x = v ∧
    ∀ k, k ≠ x.bit → (writeFlag f x v).getLsbD k = f.getLsbD k)

/-- R51 and R52: `read` and `write` of the Memory Bus, for every one of the 65536 addresses. -/
def Obligations.ReadAfterWrite : Prop :=
  ∀ (s : State) (addr other : Word) (v : Byte),
    (s.write8 addr v).read8 addr = v ∧
    (other ≠ addr → (s.write8 addr v).read8 other = s.read8 other) ∧
    getState (s.write8 addr v) = getState s ∧ (s.write8 addr v).mcycles = s.mcycles

/-- R55. The premise on the last clause is the canonical form of memory (`EveryStepKeepsInvariant`): without it two lists can stand for one memory. -/
def Obligations.MemoryHasNoSideEffects : Prop :=
  (∀ (s : State) (addr : Word) (v : Byte), SameMemoryExcept [addr] s (s.write8 addr v) ∧
    getState (s.write8 addr v) = getState s ∧ (s.write8 addr v).mcycles = s.mcycles) ∧
  (∀ (s : State) (addr : Word), s.mem.wf → s.write8 addr (s.read8 addr) = s)

/-- R57 (conflict C1: low byte first). -/
def Obligations.ImmediatesAreLittleEndian : Prop :=
  (∀ (s : State) (nn : Word),
    ((fetchInstr s).1.form = .ldANN nn ∨ (fetchInstr s).1.form = .ldNNA nn ∨
      ∃ p : RegDD, (fetchInstr s).1.form = .ldRRNN p nn) →
    nn.toNat = (s.read8 (s.pc + 2)).toNat * 256 + (s.read8 (s.pc + 1)).toNat) ∧
  (∀ s : State, s.fetch16.1.toNat = (s.read8 (s.pc + 1)).toNat * 256 + (s.read8 s.pc).toNat ∧
    s.fetch16.2 = { s with pc := s.pc + 2 })

/-- R111 (conflict C2: never `(offset << 8) | 0xFF`). -/
def Obligations.HighRamAddress : Prop :=
  ∀ o : Byte, (hram o).toNat = 0xFF00 + o.toNat ∧ 0xFF00 ≤ (hram o).toNat ∧ (hram o).toNat ≤ 0xFFFF

/-- R60 and R61 (the order of the accesses is decision D16; that they are a list read from the state before the step, `busTrace`, is log entry 7, the model's own form): the listed accesses account for every change of memory, over all instructions. -/
def Obligations.StepMemoryIsItsBusWrites : Prop :=
  (∀ (mc : CycleTable) (s t : State), stepWith mc s = .next t → SameMemory (applyAccesses (busTrace s) s) t) ∧
  (∀ (mc : CycleTable) (s t : State), stepWith mc s = .next t →
    (∀ addr v, BusAccess.write addr v ∉ busTrace s) → SameMemory s t) ∧
  (∀ (mc : CycleTable) (s : State) (r : Fault), stepWith mc s = .fault r → busTrace s = [.fetch s.pc])

/-- R64 and R267: fetch is coherent with stores, with no fence. The accesses of a step are `busTrace` (R60; log entry 7). -/
def Obligations.StoredByteIsFetchedNext : Prop :=
  (∀ (mc : CycleTable) (s t : State), stepWith mc s = .next t →
    t.fetch8.1 = (applyAccesses (busTrace s) s).read8 t.pc ∧
    (∀ v, BusAccess.write t.pc v ∈ busTrace s → t.fetch8.1 = v) ∧
    ((∀ v, BusAccess.write t.pc v ∉ busTrace s) → t.fetch8.1 = s.read8 t.pc)) ∧
  (∀ (mc : CycleTable) (s t : State) (src : Reg8), (fetchInstr s).1.form = .ldHLR src → s.pair .hl = s.pc + 1 →
    stepWith mc s = .next t → t.fetch8.1 = s.reg src) ∧
  (∀ (s : State) (v : Byte), (hostWrite s s.pc v).fetch8.1 = v)

/-- The formats and fields of R83 and R85 (the encoder) against the opcode map of R86 (the decoder): no bit of an encoding is dropped. The byte values are decision D3. -/
def Obligations.DecodeOfEncode : Prop :=
  ∀ (i : Instr) (rest : List Byte), i.wellFormed = true → decode (encode i ++ rest) = .ok (i, rest)

/-- The other direction of `DecodeOfEncode`: each word has one meaning, and decoding is total on opcode bytes (R90). -/
def Obligations.EncodeOfDecode : Prop :=
  ∀ (bytes rest : List Byte) (i : Instr), decode bytes = .ok (i, rest) →
    i.wellFormed = true ∧ encode i ++ rest = bytes ∧ i.length = (encode i).length

/-- R87 and R90 (which bytes are empty is decision D2). -/
def Obligations.EmptyEntriesAreTheListedBytes : Prop :=
  ∀ (mc : CycleTable) (op b1 b2 : Byte),
    (op ∈ emptyEntries ↔ decodeOp op b1 b2 = .invalid op) ∧
    (op ∈ emptyEntries ↔ opcodeTable mc op = none) ∧
    (op ∉ emptyEntries → ∃ d, opcodeTable mc op = some d ∧ some d.mnemonic = (decodeOp op b1 b2).form.mnemonic ∧
      d.length = (decodeOp op b1 b2).length ∧ d.mcycles = mc op)

/-- R95 and R98, over the opcode bytes. The counts are the defaults (decision D10: an open parameter; log entry 3); no other statement holds a number of cycles. -/
def Obligations.OpcodeTableLengthsAndCycles : Prop :=
  ∀ (op : Byte) (d : OpcodeDescriptor), opcodeTable defaultCycles op = some d →
    d.mcycles =
      (if op ∈ [0xC5#8, 0xD5#8, 0xE5#8, 0xF5#8, 0xEA#8, 0xFA#8] then 4
       else if op ∈ [0x01#8, 0x11#8, 0x21#8, 0x31#8, 0x36#8, 0xC1#8, 0xD1#8, 0xE1#8, 0xF1#8, 0xE0#8, 0xF0#8, 0xF8#8] then 3
       else if (op.toNat / 64 = 1 ∨ op.toNat / 64 = 2) ∧ op.toNat % 8 ≠ 6 ∧ op.toNat / 8 ≠ 14 then 1
       else 2) ∧
    d.length =
      (if op ∈ [0x01#8, 0x11#8, 0x21#8, 0x31#8, 0xEA#8, 0xFA#8] then 3
       else if op.toNat / 64 = 0 ∧ op.toNat % 8 = 6 ∨ op.toNat / 64 = 3 ∧ op.toNat % 8 = 6 ∨ op ∈ [0xE0#8, 0xF0#8, 0xF8#8] then 2
       else 1)

/-- Bytes from the rules' examples and section 95, not from the encoder. -/
def Obligations.WordsDecodeAsTheSpecWritesThem : Prop :=
  decode [0x78] = .ok (.ld_a_b, []) ∧
  decode [0x06, 0x01] = .ok (.ld_b_n 0x01, []) ∧
  decode [0x66] = .ok (.ld_h_mhl, []) ∧
  decode [0x74] = .ok (.ld_mhl_h, []) ∧
  decode [0x36, 0x5A] = .ok (.ld_mhl_n 0x5A, []) ∧
  decode [0xFA, 0x34, 0x12] = .ok (.ld_a_mnn 0x1234, []) ∧
  decode [0xE0, 0x01] = .ok (.ldh_mn_a 0x01, []) ∧
  decode [0x2A, 0x3A] = .ok (.ld_a_mhli, [0x3A]) ∧
  decode [0x31, 0xFE, 0xFF] = .ok (.ld_sp_nn 0xFFFE, []) ∧
  decode [0xF5] = .ok (.push_af, []) ∧
  decode [0xF1] = .ok (.pop_af, []) ∧
  decode [0xF8, 0xFE] = .ok (.ld_hl_spe 0xFE, []) ∧
  decode [0x8E] = .ok (.adc_a_mhl, []) ∧
  decode [0xDE, 0x4F] = .ok (.sbc_a_n 0x4F, []) ∧
  decode [0xBF] = .ok (.cp_a_a, []) ∧
  decode [0xFD] = .ok (.invalid 0xFD, []) ∧
  decode [0xCB, 0x37] = .ok (.invalid 0xCB, [0x37])

/-- R85 and R86: the map between the formats with their fields and the entries is one to one. -/
def Obligations.EveryFormIsOneInstruction : Prop :=
  ∀ fm : Form, ∃ i : Instr, i.form = fm ∧ ∀ j : Instr, j.form = fm → j = i

/-- R80: fetch, decode, dispatch, execute, cycle accounting. That exec is taken at the state before the fetch, and moves PC itself, is the model's own arrangement (log entry 6), not R80's order. The last clause, that `step` is the step with the default table, is the model's choice (log entry 3, DESIGN CHOICE), no rule of the spec: R98 and D10 leave the table open, and the first clause is for every table. -/
def Obligations.StepRunsTheDecodedInstruction : Prop :=
  (∀ (mc : CycleTable) (s : State) (n : Nat) (i : Instr) (rest : List Byte), decode (s.bytesFrom s.pc n) = .ok (i, rest) →
    (∀ t, exec i s = .next t →
      stepWith mc s = .next { t with mcycles := t.mcycles + BitVec.ofNat 64 (mc i.opcode) }) ∧
    (∀ r, exec i s = .fault r → stepWith mc s = .fault r) ∧
    fetchInstr s = (i, { s with pc := s.pc + BitVec.ofNat 16 i.length })) ∧
  (∀ s : State, step s = stepWith defaultCycles s)

/-- R248 and R81; that the failure is the empty entry's is R231 and R87. Which bytes have an entry is decision D2. -/
def Obligations.StepHasTwoKindsOfResult : Prop :=
  ∀ (mc : CycleTable) (s : State),
    ((∃ t, stepWith mc s = .next t) ∨ (∃ op addr t, stepWith mc s = .fault (.invalidOpcode op addr t))) ∧
    ((∃ t, stepWith mc s = .next t) ↔ s.read8 s.pc ∉ emptyEntries)

/-- R231. This is the stop of the instruction INVALID (constructor `invalid`). -/
def Obligations.InvalidOpcodeCarriesByteAndAddress : Prop :=
  (∀ (mc : CycleTable) (s : State), s.read8 s.pc ∈ emptyEntries →
    ∃ t, stepWith mc s = .fault (.invalidOpcode (s.read8 s.pc) s.pc t)) ∧
  (∀ (s : State) (op : Byte), ∃ t, exec (.invalid op) s = .fault (.invalidOpcode op s.pc t))

/-- R232, R234, R236. That the counter is unchanged is decision D11; that the fault carries the state is log entry 4. -/
def Obligations.StateAfterInvalidOpcode : Prop :=
  ∀ (mc : CycleTable) (s t : State) (op : Byte) (addr : Word), stepWith mc s = .fault (.invalidOpcode op addr t) →
    addr = s.pc ∧ op = s.read8 s.pc ∧ t = { s with pc := s.pc + 1 } ∧
    busTrace s = [.fetch s.pc] ∧ (busTrace t).head? = some (.fetch (addr + 1))

/-- R30 and R95 (the wrap at 0xFFFF, R31, is decision D4). -/
def Obligations.PcAdvancesByTheLength : Prop :=
  ∀ (mc : CycleTable) (s t : State), stepWith mc s = .next t →
    t.pc = s.pc + BitVec.ofNat 16 (encode (fetchInstr s).1).length ∧ (fetchInstr s).2.pc = t.pc

/-- R269, for every `MCYCLES` (D10: claims about the counter name the table). The wrap is decision D12. -/
def Obligations.RunAddsTheCyclesOfItsOpcodes : Prop :=
  (∀ (mc : CycleTable) (mem0 : Memory) (k : Nat) (s t : State), (launch mc mem0).run k s = .next t →
    t.mcycles = s.mcycles + BitVec.ofNat 64 (cyclesOfRun mc k s)) ∧
  (∀ op b1 b2 : Byte, (decodeOp op b1 b2).form.defaultCycles = defaultCycles op)

/-- R250 (the shape of the event is decision D19; log entry 7). The spellings are those of `MnemonicsAreSpelledAsTheMapWritesThem`. -/
def Obligations.TraceEventDescribesTheStep : Prop :=
  ∀ (mc : CycleTable) (s : State), (traceEvent s).addr = s.pc ∧ (traceEvent s).op = s.read8 s.pc ∧
    (traceEvent s).mnemonic = (fetchInstr s).1.form.mnemonic ∧
    ((traceEvent s).ok = true ↔ ∃ t, stepWith mc s = .next t) ∧
    ((traceEvent s).mnemonic = none ↔ ∃ r, stepWith mc s = .fault r)

/-- The writers column of R27 (for the loads the source is silent on, decision D9). `writesFlags` lists the forms. -/
def Obligations.FlagsChangeOnlyByAluSpOffsetAndPopAf : Prop :=
  ∀ (i : Instr) (s t : State), writesFlags i.form = false → exec i s = .next t → SameF s t

/-- The readers column of R27, as a comparison of two states that differ in F only. `readsFlags` lists the forms. -/
def Obligations.FlagsAreReadOnlyByAdcSbcAndPushAf : Prop :=
  ∀ (i : Instr) (s t : State) (f : Byte), readsFlags i.form = false → exec i s = .next t →
    ∃ u, exec i { s with f := f } = .next u ∧ { u with f := t.f } = t ∧
      (writesFlags i.form = true → u.f = t.f) ∧ (writesFlags i.form = false → u.f = f)

/-- R245: software on the core cannot observe the counter; and no rule but the counter's reads `MCYCLES` (R98). -/
def Obligations.CounterIsNotObservable : Prop :=
  (∀ s : State, getMcycleCount s = s.mcycles) ∧
  (∀ (i : Instr) (s t : State) (m : Counter), exec i s = .next t →
    t.mcycles = s.mcycles ∧ exec i { s with mcycles := m } = .next { t with mcycles := m }) ∧
  (∀ (mc mc' : CycleTable) (s t : State) (m : Counter), stepWith mc s = .next t →
    stepWith mc' { s with mcycles := m } = .next { t with mcycles := m + BitVec.ofNat 64 (mc' (s.read8 s.pc)) })

/-- The PC row of R38. -/
def Obligations.PcIsReadByFetchOnly : Prop :=
  ∀ (i : Instr) (s t : State) (p : Word), exec i s = .next t →
    exec i { s with pc := p } = .next { t with pc := p + BitVec.ofNat 16 i.length }

/-- R29. `writesSP` lists the forms. -/
def Obligations.SpChangesOnlyByItsWriters : Prop :=
  ∀ (i : Instr) (s t : State), writesSP i.form = false → exec i s = .next t → SameSP s t

/-- R113: constructors `ld_<r>_<r'>`, 49. -/
def Obligations.LoadRegisterFromRegister : Prop :=
  ∀ (i : Instr) (dst src : Reg8) (s : State), i.form = .ldRR dst src →
    encode i = [0b01#2 ++ dst.code ++ src.code] ∧
    ∃ t, exec i s = .next t ∧ t.reg dst = s.reg src ∧ SameRegsExcept [dst] s t ∧
      SameF s t ∧ SameSP s t ∧ SameMemory s t ∧ Retired 1 s t ∧
      ∀ mc, (fetchInstr s).1 = i → stepWith mc s = .next (t.addCycles (mc (s.read8 s.pc)))

/-- R114: constructors `ld_<r>_n`, 7. PC moves modulo 65536 (R31). -/
def Obligations.LoadRegisterImmediate : Prop :=
  ∀ (i : Instr) (dst : Reg8) (n : Byte) (s : State), i.form = .ldRN dst n →
    encode i = [0b00#2 ++ dst.code ++ 0b110#3, n] ∧
    ∃ t, exec i s = .next t ∧ t.reg dst = n ∧ SameRegsExcept [dst] s t ∧
      SameF s t ∧ SameSP s t ∧ SameMemory s t ∧ Retired 2 s t ∧
      ∀ mc, (fetchInstr s).1 = i → stepWith mc s = .next (t.addCycles (mc (s.read8 s.pc)))

/-- R115: constructors `ld_<r>_mhl`, 7. -/
def Obligations.LoadRegisterFromHL : Prop :=
  ∀ (i : Instr) (dst : Reg8) (s : State), i.form = .ldRHL dst →
    ∃ t, exec i s = .next t ∧ t.reg dst = s.read8 (s.pair .hl) ∧ SameRegsExcept [dst] s t ∧
      SameF s t ∧ SameSP s t ∧ SameMemory s t ∧ Retired 1 s t

/-- R116 and R117: constructors `ld_mhl_<r>`, 7, and `ld_mhl_n`. -/
def Obligations.StoreAtHL : Prop :=
  ∀ (i : Instr) (v : Byte) (len : Nat) (s : State),
    ((∃ src : Reg8, i.form = .ldHLR src ∧ v = s.reg src ∧ len = 1) ∨ (i.form = .ldHLN v ∧ len = 2)) →
    ∃ t, exec i s = .next t ∧ t.read8 (s.pair .hl) = v ∧ SameMemoryExcept [s.pair .hl] s t ∧
      SameRegsExcept [] s t ∧ SameF s t ∧ SameSP s t ∧ Retired len s t

/-- R118, R119, R122: constructors `ld_a_mbc`, `ld_a_mde`, `ld_a_mnn`. -/
def Obligations.LoadAFromAddress : Prop :=
  ∀ (i : Instr) (addr : Word) (len : Nat) (s : State),
    ((i.form = .ldABC ∧ addr = s.pair .bc ∧ len = 1) ∨ (i.form = .ldADE ∧ addr = s.pair .de ∧ len = 1) ∨
      (i.form = .ldANN addr ∧ len = 3)) →
    ∃ t, exec i s = .next t ∧ t.a = s.read8 addr ∧ SameRegsExcept [.a] s t ∧
      SameF s t ∧ SameSP s t ∧ SameMemory s t ∧ Retired len s t

/-- R120, R121, R123: constructors `ld_mbc_a`, `ld_mde_a`, `ld_mnn_a`. -/
def Obligations.StoreAAtAddress : Prop :=
  ∀ (i : Instr) (addr : Word) (len : Nat) (s : State),
    ((i.form = .ldBCA ∧ addr = s.pair .bc ∧ len = 1) ∨ (i.form = .ldDEA ∧ addr = s.pair .de ∧ len = 1) ∨
      (i.form = .ldNNA addr ∧ len = 3)) →
    ∃ t, exec i s = .next t ∧ t.read8 addr = s.a ∧ SameMemoryExcept [addr] s t ∧
      SameRegsExcept [] s t ∧ SameF s t ∧ SameSP s t ∧ Retired len s t

/-- R124 and R126 (flags: decision D9): constructors `ldh_a_mc`, `ldh_a_mn`. -/
def Obligations.LoadAFromHighRam : Prop :=
  ∀ (i : Instr) (o : Byte) (len : Nat) (s : State),
    ((i.form = .ldhAC ∧ o = s.c ∧ len = 1) ∨ (i.form = .ldhAN o ∧ len = 2)) →
    ∃ t, exec i s = .next t ∧ t.a = s.read8 (0xFF00#16 ||| o.setWidth 16) ∧ SameRegsExcept [.a] s t ∧
      SameF s t ∧ SameSP s t ∧ SameMemory s t ∧ Retired len s t

/-- R125 and R127 (flags: decision D9): constructors `ldh_mc_a`, `ldh_mn_a`. -/
def Obligations.StoreAInHighRam : Prop :=
  ∀ (i : Instr) (o : Byte) (len : Nat) (s : State),
    ((i.form = .ldhCA ∧ o = s.c ∧ len = 1) ∨ (i.form = .ldhNA o ∧ len = 2)) →
    ∃ t, exec i s = .next t ∧ t.read8 (0xFF00#16 ||| o.setWidth 16) = s.a ∧
      SameMemoryExcept [0xFF00#16 ||| o.setWidth 16] s t ∧
      SameRegsExcept [] s t ∧ SameF s t ∧ SameSP s t ∧ Retired len s t

/-- R112, R128, R129 (flags: decision D9): constructors `ld_a_mhli`, `ld_a_mhld`. -/
def Obligations.LoadAThenMoveHL : Prop :=
  ∀ (i : Instr) (delta : Int) (s : State),
    ((i.form = .ldAHLI ∧ delta = 1) ∨ (i.form = .ldAHLD ∧ delta = -1)) →
    ∃ t, exec i s = .next t ∧ t.a = s.read8 (s.pair .hl) ∧
      ((t.pair .hl).toNat : Int) = ((s.pair .hl).toNat + delta) % 65536 ∧ SameRegsExcept [.a, .h, .l] s t ∧
      SameF s t ∧ SameSP s t ∧ SameMemory s t ∧ Retired 1 s t

/-- R112, R130, R131 (flags: decision D9): constructors `ld_mhli_a`, `ld_mhld_a`. -/
def Obligations.StoreAThenMoveHL : Prop :=
  ∀ (i : Instr) (delta : Int) (s : State),
    ((i.form = .ldHLIA ∧ delta = 1) ∨ (i.form = .ldHLDA ∧ delta = -1)) →
    ∃ t, exec i s = .next t ∧ t.read8 (s.pair .hl) = s.a ∧ SameMemoryExcept [s.pair .hl] s t ∧
      ((t.pair .hl).toNat : Int) = ((s.pair .hl).toNat + delta) % 65536 ∧ SameRegsExcept [.h, .l] s t ∧
      SameF s t ∧ SameSP s t ∧ Retired 1 s t

/-- R161 (flags: decision D9): constructors `ld_bc_nn`, `ld_de_nn`, `ld_hl_nn`, `ld_sp_nn`. -/
def Obligations.LoadPairImmediate : Prop :=
  ∀ (i : Instr) (p : RegDD) (nn : Word) (s : State), i.form = .ldRRNN p nn →
    ∃ t, exec i s = .next t ∧ t.pair p.pair = nn ∧ SameRegsExcept (halvesDD p) s t ∧
      (p ≠ .sp → SameSP s t) ∧ SameF s t ∧ SameMemory s t ∧ Retired 3 s t

/-- R163 and R164 (byte order: decision D6, wrap: D5): constructors `push_bc`, `push_de`, `push_hl`, `push_af`. -/
def Obligations.PushStoresThePair : Prop :=
  ∀ (i : Instr) (p : RegQQ) (s : State), i.form = .push p →
    ∃ t, exec i s = .next t ∧ t.sp = s.sp - 2 ∧
      (t.read8 (s.sp - 1)).toNat = (s.pair p.pair).toNat / 256 ∧
      (t.read8 (s.sp - 2)).toNat = (s.pair p.pair).toNat % 256 ∧
      SameMemoryExcept [s.sp - 1, s.sp - 2] s t ∧ SameRegsExcept [] s t ∧ SameF s t ∧ Retired 1 s t

/-- R165 (byte order: decision D6, flags: D9): constructors `pop_bc`, `pop_de`, `pop_hl`. -/
def Obligations.PopLoadsThePair : Prop :=
  ∀ (i : Instr) (p : RegQQ) (s : State), i.form = .pop p → p ≠ .af →
    ∃ t, exec i s = .next t ∧
      (t.pair p.pair).toNat = (s.read8 (s.sp + 1)).toNat * 256 + (s.read8 s.sp).toNat ∧ t.sp = s.sp + 2 ∧
      SameRegsExcept (halvesQQ p) s t ∧ SameF s t ∧ SameMemory s t ∧ Retired 1 s t

/-- R166 (byte order: decision D6): constructor `pop_af`. -/
def Obligations.PopAfMasksF : Prop :=
  ∀ (i : Instr) (s : State), i.form = .pop .af →
    ∃ t, exec i s = .next t ∧ t.a = s.read8 (s.sp + 1) ∧ t.f = s.read8 s.sp &&& 0xF0#8 ∧
      FlagsAre t ((s.read8 s.sp).getLsbD 7) ((s.read8 s.sp).getLsbD 6) ((s.read8 s.sp).getLsbD 5)
        ((s.read8 s.sp).getLsbD 4) ∧
      t.sp = s.sp + 2 ∧ SameRegsExcept [.a] s t ∧ SameMemory s t ∧ Retired 1 s t

/-- R167, the push and pop inverse law with the exception of conflict C4. -/
def Obligations.PushThenPopRestores : Prop :=
  ∀ (i j : Instr) (p q : RegQQ) (s : State), i.form = .push p → j.form = .pop q →
    ∃ t u, exec i s = .next t ∧ exec j t = .next u ∧ u.sp = s.sp ∧
      (q ≠ .af → u.pair q.pair = s.pair p.pair) ∧
      (q = .af → u.pair .af = s.pair p.pair &&& 0xFFF0#16) ∧
      (p = .af → q = .af → s.f &&& 0x0F#8 = 0#8 → u.pair .af = s.pair .af)

/-- R168 (flags: decision D9): constructor `ld_sp_hl`. -/
def Obligations.LoadSpFromHL : Prop :=
  ∀ (i : Instr) (s : State), i.form = .ldSPHL →
    ∃ t, exec i s = .next t ∧ t.sp.toNat = s.h.toNat * 256 + s.l.toNat ∧ SameRegsExcept [] s t ∧
      SameF s t ∧ SameMemory s t ∧ Retired 1 s t

/-- R94, R170, R171 (sign and flags: decision D8): constructor `ld_hl_spe`. -/
def Obligations.LoadHLFromSpPlusOffset : Prop :=
  ∀ (i : Instr) (e : Byte) (s : State), i.form = .ldHLSPE e →
    ∃ t, exec i s = .next t ∧ ((t.pair .hl).toNat : Int) = (s.sp.toNat + e.toInt) % 65536 ∧
      FlagsAre t false false (decide (s.sp.toNat % 16 + e.toNat % 16 > 0xF))
        (decide (s.sp.toNat % 256 + e.toNat > 0xFF)) ∧
      SameSP s t ∧ SameRegsExcept [.h, .l] s t ∧ SameMemory s t ∧ Retired 2 s t

/-- R195 to R197: constructors `add_a_<x>`, 9. -/
def Obligations.AddResultAndFlags : Prop :=
  ∀ (i : Instr) (b : Byte) (len : Nat) (s : State), AluOperand .add i s b len →
    ∃ t, exec i s = .next t ∧ t.a.toNat = (s.a.toNat + b.toNat) % 256 ∧
      FlagsAre t (decide ((s.a.toNat + b.toNat) % 256 = 0)) false (decide (s.a.toNat % 16 + b.toNat % 16 > 0xF))
        (decide (s.a.toNat + b.toNat > 0xFF)) ∧
      SameRegsExcept [.a] s t ∧ SameSP s t ∧ SameMemory s t ∧ Retired len s t

/-- R198 to R200 (carry-in: decision D7): constructors `adc_a_<x>`, 9. -/
def Obligations.AdcResultAndFlags : Prop :=
  ∀ (i : Instr) (b : Byte) (len : Nat) (s : State), AluOperand .adc i s b len →
    ∃ t, exec i s = .next t ∧ t.a.toNat = (s.a.toNat + b.toNat + (s.flag .c).toNat) % 256 ∧
      FlagsAre t (decide ((s.a.toNat + b.toNat + (s.flag .c).toNat) % 256 = 0)) false (decide (s.a.toNat % 16 + b.toNat % 16 + (s.flag .c).toNat > 0xF))
        (decide (s.a.toNat + b.toNat + (s.flag .c).toNat > 0xFF)) ∧
      SameRegsExcept [.a] s t ∧ SameSP s t ∧ SameMemory s t ∧ Retired len s t

/-- R201 to R203 (H and C as borrows: decision D7): constructors `sub_a_<x>`, 9. -/
def Obligations.SubResultAndFlags : Prop :=
  ∀ (i : Instr) (b : Byte) (len : Nat) (s : State), AluOperand .sub i s b len →
    ∃ t, exec i s = .next t ∧ (t.a.toNat : Int) = ((s.a.toNat : Int) - b.toNat) % 256 ∧
      FlagsAre t (decide (((s.a.toNat : Int) - b.toNat) % 256 = 0)) true (decide (s.a.toNat % 16 < b.toNat % 16))
        (decide (s.a.toNat < b.toNat)) ∧
      SameRegsExcept [.a] s t ∧ SameSP s t ∧ SameMemory s t ∧ Retired len s t

/-- R204 to R206 (H and C as borrows, borrow-in: decision D7): constructors `sbc_a_<x>`, 9. -/
def Obligations.SbcResultAndFlags : Prop :=
  ∀ (i : Instr) (b : Byte) (len : Nat) (s : State), AluOperand .sbc i s b len →
    ∃ t, exec i s = .next t ∧ (t.a.toNat : Int) = ((s.a.toNat : Int) - b.toNat - (s.flag .c).toNat) % 256 ∧
      FlagsAre t (decide (((s.a.toNat : Int) - b.toNat - (s.flag .c).toNat) % 256 = 0)) true (decide (s.a.toNat % 16 < b.toNat % 16 + (s.flag .c).toNat))
        (decide (s.a.toNat < b.toNat + (s.flag .c).toNat)) ∧
      SameRegsExcept [.a] s t ∧ SameSP s t ∧ SameMemory s t ∧ Retired len s t

/-- R207 to R209 (H and C as borrows: decision D7): constructors `cp_a_<x>`, 9. -/
def Obligations.CpFlagsOnly : Prop :=
  ∀ (i : Instr) (b : Byte) (len : Nat) (s : State), AluOperand .cp i s b len →
    ∃ t, exec i s = .next t ∧ t.a = s.a ∧
      FlagsAre t (decide (((s.a.toNat : Int) - b.toNat) % 256 = 0)) true (decide (s.a.toNat % 16 < b.toNat % 16))
        (decide (s.a.toNat < b.toNat)) ∧
      SameRegsExcept [] s t ∧ SameSP s t ∧ SameMemory s t ∧ Retired len s t

/-- R191 and R192. -/
def Obligations.AluZeroAndSubtractFlags : Prop :=
  ∀ (op : AluOp) (i : Instr) (b : Byte) (len : Nat) (s : State), AluOperand op i s b len →
    ∃ t, exec i s = .next t ∧
      (op ≠ .cp → (t.flag .z = true ↔ t.a = 0)) ∧
      (op = .cp → (t.flag .z = true ↔ s.a - b = 0)) ∧
      (t.flag .n = true ↔ op = .sub ∨ op = .sbc ∨ op = .cp)

/-- R207, and the corner cases of R200 and R206. -/
def Obligations.CpIsSubWithoutTheStore : Prop :=
  ∀ (i j : Instr) (b : Byte) (k len : Nat) (s : State),
    (AluOperand .sub i s b len → AluOperand .cp j s b k →
      ∃ t u, exec i s = .next t ∧ exec j s = .next u ∧ u.f = t.f ∧ u.a = s.a) ∧
    (AluOperand .add i s b len → AluOperand .adc j s b k → s.flag .c = false →
      ∃ t u, exec i s = .next t ∧ exec j s = .next u ∧ u.f = t.f ∧ u.a = t.a) ∧
    (AluOperand .sub i s b len → AluOperand .sbc j s b k → s.flag .c = false →
      ∃ t u, exec i s = .next t ∧ exec j s = .next u ∧ u.f = t.f ∧ u.a = t.a)

/-- R211 and the corner cases of R201, R204, R207. -/
def Obligations.ArithmeticOfAWithItself : Prop :=
  ∀ s : State,
    (∃ t, exec .sub_a_a s = .next t ∧ t.a = 0 ∧ t.f = 0xC0) ∧
    (∃ t, exec .cp_a_a s = .next t ∧ t.a = s.a ∧ t.f = 0xC0) ∧
    (∃ t, exec .sbc_a_a s = .next t ∧
      t.a = (if s.flag .c then 0xFF else 0x00) ∧ t.f = (if s.flag .c then 0x70 else 0xC0)) ∧
    (∃ t, exec .add_a_a s = .next t ∧ t.a = 2 * s.a)

/-- R246. That B and D are the high halves is what R22 marks as general knowledge. -/
def Obligations.GetStateGivesRegistersAndPairViews : Prop :=
  ∀ s t : State,
    ((getState s).a = s.a ∧ (getState s).f = s.f ∧ (getState s).b = s.b ∧ (getState s).c = s.c ∧ (getState s).d = s.d ∧
      (getState s).e = s.e ∧ (getState s).h = s.h ∧ (getState s).l = s.l ∧ (getState s).sp = s.sp ∧ (getState s).pc = s.pc) ∧
    (∀ p : Pair, (getState s).pair p = s.pair p) ∧
    ((getState s).pair .af).toNat = s.a.toNat * 256 + s.f.toNat ∧ ((getState s).pair .bc).toNat = s.b.toNat * 256 + s.c.toNat ∧
    ((getState s).pair .de).toNat = s.d.toNat * 256 + s.e.toNat ∧ ((getState s).pair .hl).toNat = s.h.toNat * 256 + s.l.toNat ∧
    (getState s = getState t → t = { s with mcycles := t.mcycles, mem := t.mem })

/-- R237 and R236 (decision D11). The observation and its record are the model's form of them (log entry 4). -/
def Obligations.FaultsStayRecordedInARun : Prop :=
  (∀ (mc : CycleTable) (s : State) (fs : List (Byte × Word)), s.read8 s.pc ∈ emptyEntries →
    hostMove mc ⟨s, fs⟩ .step = ⟨{ s with pc := s.pc + 1 }, fs ++ [(s.read8 s.pc, s.pc)]⟩) ∧
  (∀ (mc : CycleTable) (s : State) (fs : List (Byte × Word)), s.read8 s.pc ∉ emptyEntries →
    ∃ t, stepWith mc s = .next t ∧ hostMove mc ⟨s, fs⟩ .step = ⟨t, fs⟩) ∧
  (∀ (mc : CycleTable) (s : State) (fs : List (Byte × Word)) (addr : Word) (v : Byte),
    hostMove mc ⟨s, fs⟩ (.write addr v) = ⟨s.write8 addr v, fs⟩) ∧
  (∀ (mc : CycleTable) (moves : List HostMove) (o : Observation), o.faults <+: (hostRun mc moves o).faults)

/-- The strings are written out from R86 and the traces of section 95; a sanity statement. -/
def Obligations.MnemonicsAreSpelledAsTheMapWritesThem : Prop :=
  (∀ x ∈ [(0x21#8, "LD HL,nn"), (0x3E#8, "LD A,n"), (0x22#8, "LD (HL+),A"), (0xC6#8, "ADD A,n"), (0x77#8, "LD (HL),A"),
      (0x3A#8, "LD A,(HL-)"), (0x96#8, "SUB A,(HL)"), (0xEA#8, "LD (nn),A"), (0x31#8, "LD SP,nn"), (0x01#8, "LD BC,nn"),
      (0xC5#8, "PUSH BC"), (0xF1#8, "POP AF"), (0xF5#8, "PUSH AF"), (0xD1#8, "POP DE"), (0xF8#8, "LD HL,SP+e"),
      (0x7E#8, "LD A,(HL)"), (0xF9#8, "LD SP,HL"), (0xE1#8, "POP HL"), (0x0E#8, "LD C,n"), (0xE2#8, "LDH (C),A"),
      (0xCE#8, "ADC A,n"), (0xE0#8, "LDH (n),A"), (0xF0#8, "LDH A,(n)"), (0xFE#8, "CP A,n"), (0x9F#8, "SBC A,A"),
      (0x40#8, "LD B,B"), (0x36#8, "LD (HL),n"), (0x0A#8, "LD A,(BC)"), (0x12#8, "LD (DE),A"), (0xFA#8, "LD A,(nn)")],
    opcodeMnemonic x.1 = some x.2) ∧
  (∀ op ∈ [0xFD#8, 0xCB#8, 0x76#8], opcodeMnemonic op = none)
end

