-- ==== Sys2Proof/Laws/Bits.lean ====
section
/-! SUPPORT. Small laws of bytes, words and the flag register. -/

namespace Sys2Proof.Machine

/-- A word is its two bytes (R22, R23). -/
@[simp] theorem join_hiByte_loByte (v : Word) : join (hiByte v) (loByte v) = v := by
  unfold join hiByte loByte
  refine BitVec.eq_of_getLsbD_eq (fun i hi => ?_)
  simp only [BitVec.getLsbD_append, BitVec.getLsbD_extractLsb']
  split
  · simp [*]
  · rw [show 8 + (i - 8) = i by omega]
    simp [show i - 8 < 8 by omega]

/-- `hi ++ lo` as a number (R12). -/
theorem join_toNat (hi lo : Byte) : (join hi lo).toNat = hi.toNat * 256 + lo.toNat := by
  unfold join
  rw [BitVec.toNat_append, ← Nat.shiftLeft_add_eq_or_of_lt lo.isLt, Nat.shiftLeft_eq]

/-- `v[15:8]` as a number (R11). -/
theorem hiByte_toNat (v : Word) : (hiByte v).toNat = v.toNat / 256 := by
  simp [hiByte, Nat.shiftRight_eq_div_pow]
  omega

/-- `v[7:0]` as a number (R11). -/
theorem loByte_toNat (v : Word) : (loByte v).toNat = v.toNat % 256 := by
  simp [loByte]

@[simp] theorem hiByte_join (hi lo : Byte) : hiByte (join hi lo) = hi := by
  unfold join hiByte
  ext i h
  simp only [BitVec.getElem_extractLsb', BitVec.getLsbD_append]
  rw [if_neg (by omega), BitVec.getLsbD_eq_getElem (by omega)]
  simp

@[simp] theorem loByte_join (hi lo : Byte) : loByte (join hi lo) = lo := by
  unfold join loByte
  ext i h
  simp only [BitVec.getElem_extractLsb', BitVec.getLsbD_append]
  rw [if_pos (by omega), BitVec.getLsbD_eq_getElem (by omega)]
  simp

@[simp] theorem toByte_z (fl : Flags) : readFlag fl.toByte .z = fl.z := by
  obtain ⟨z, n, h, c⟩ := fl
  cases z <;> cases n <;> cases h <;> cases c <;> rfl

@[simp] theorem toByte_n (fl : Flags) : readFlag fl.toByte .n = fl.n := by
  obtain ⟨z, n, h, c⟩ := fl
  cases z <;> cases n <;> cases h <;> cases c <;> rfl

@[simp] theorem toByte_h (fl : Flags) : readFlag fl.toByte .h = fl.h := by
  obtain ⟨z, n, h, c⟩ := fl
  cases z <;> cases n <;> cases h <;> cases c <;> rfl

@[simp] theorem toByte_c (fl : Flags) : readFlag fl.toByte .c = fl.c := by
  obtain ⟨z, n, h, c⟩ := fl
  cases z <;> cases n <;> cases h <;> cases c <;> rfl

/-- The flags an instruction writes leave bits 3 to 0 zero, so the mask of R26 changes nothing of them. -/
@[simp] theorem maskF_toByte (fl : Flags) : maskF fl.toByte = fl.toByte := by
  obtain ⟨z, n, h, c⟩ := fl
  cases z <;> cases n <;> cases h <;> cases c <;> rfl

@[simp] theorem toByte_low (fl : Flags) : fl.toByte &&& 0x0F#8 = 0#8 := by
  obtain ⟨z, n, h, c⟩ := fl
  cases z <;> cases n <;> cases h <;> cases c <;> rfl

/-- Whatever is written to F, bits 3 to 0 are zero after (R26). -/
@[simp] theorem maskF_low (v : Byte) : maskF v &&& 0x0F#8 = 0#8 := by
  unfold maskF
  rw [BitVec.and_assoc]
  simp

end Sys2Proof.Machine
end

