-- ==== Sys2Proof/Laws/Memory.lean ====
section
/-! SUPPORT. The laws of the memory operations: read after write (R51, R52), the canonical form kept, and that the canonical form
makes equal memories equal lists. -/

namespace Sys2Proof.Machine

theorem Memory.read_cons (c : Host.Cell) (m : Memory) (a : Nat) :
    Memory.read (c :: m) a = if c.1 = a then c.2 else Memory.read m a := rfl

theorem Memory.erase_cons (c : Host.Cell) (m : Memory) (a : Nat) :
    Memory.erase (c :: m) a = if c.1 = a then Memory.erase m a else c :: Memory.erase m a := by
  by_cases h : c.1 = a <;> simp [Memory.erase, h]

theorem Memory.mem_erase (m : Memory) (a : Nat) (c : Host.Cell) :
    c ∈ Memory.erase m a ↔ c ∈ m ∧ c.1 ≠ a := by
  simp [Memory.erase]

theorem Memory.read_erase_same (m : Memory) (a : Nat) :
    Memory.read (Memory.erase m a) a = Config.unlistedByte := by
  induction m with
  | nil => rfl
  | cons c rest ih =>
    rw [Memory.erase_cons]
    split
    · exact ih
    · rename_i h
      rw [Memory.read_cons, if_neg h, ih]

theorem Memory.read_erase_other (m : Memory) (a b : Nat) (hb : b ≠ a) :
    Memory.read (Memory.erase m a) b = Memory.read m b := by
  induction m with
  | nil => rfl
  | cons c rest ih =>
    rw [Memory.erase_cons, Memory.read_cons]
    split
    · rename_i h
      rw [ih, if_neg (by omega)]
    · rw [Memory.read_cons, ih]

theorem Memory.read_insert_same (m : Memory) (a : Nat) (v : Byte) (hm : ∀ c ∈ m, c.1 ≠ a) :
    Memory.read (Memory.insert m a v) a = v := by
  induction m with
  | nil => simp [Memory.insert, Memory.read]
  | cons c rest ih =>
    simp only [Memory.insert]
    split
    · simp [Memory.read]
    · rw [Memory.read_cons, if_neg (hm c (by simp)), ih (fun d hd => hm d (by simp [hd]))]

theorem Memory.read_insert_other (m : Memory) (a b : Nat) (v : Byte) (hb : b ≠ a) :
    Memory.read (Memory.insert m a v) b = Memory.read m b := by
  induction m with
  | nil => simp [Memory.insert, Memory.read, Ne.symm hb]
  | cons c rest ih =>
    simp only [Memory.insert]
    split
    · rw [Memory.read_cons, if_neg (Ne.symm hb)]
    · rw [Memory.read_cons, Memory.read_cons, ih]

/-- A read after a write to the same address gives the byte written (R51, R52). -/
@[simp] theorem Memory.read_write_same (m : Memory) (a : Nat) (v : Byte) :
    Memory.read (Memory.write m a v) a = v := by
  unfold Memory.write
  split
  · rename_i h
    rw [Memory.read_erase_same, h]
  · exact Memory.read_insert_same _ _ _ (fun c hc => ((Memory.mem_erase m a c).1 hc).2)

/-- A write leaves every other address alone (R52). -/
theorem Memory.read_write_other (m : Memory) (a b : Nat) (v : Byte) (hb : b ≠ a) :
    Memory.read (Memory.write m a v) b = Memory.read m b := by
  unfold Memory.write
  split
  · exact Memory.read_erase_other m a b hb
  · rw [Memory.read_insert_other _ _ _ _ hb, Memory.read_erase_other _ _ _ hb]

theorem Memory.wf_nil : Memory.wf [] := ⟨List.Pairwise.nil, by simp⟩

theorem Memory.wf_cons (c : Host.Cell) (m : Memory) :
    Memory.wf (c :: m) ↔
      (∀ x ∈ m, c.1 < x.1) ∧ c.1 < Config.memorySize ∧ c.2 ≠ Config.unlistedByte ∧ Memory.wf m := by
  simp only [Memory.wf, List.pairwise_cons, List.forall_mem_cons]
  tauto

theorem Memory.erase_wf (m : Memory) (a : Nat) (h : Memory.wf m) : Memory.wf (Memory.erase m a) :=
  ⟨h.1.filter _, fun c hc => h.2 c ((Memory.mem_erase m a c).1 hc).1⟩

theorem Memory.mem_insert (m : Memory) (a : Nat) (v : Byte) (c : Host.Cell) :
    c ∈ Memory.insert m a v ↔ c = (a, v) ∨ c ∈ m := by
  induction m with
  | nil => simp [Memory.insert]
  | cons d rest ih =>
    simp only [Memory.insert]
    split
    · simp
    · simp only [List.mem_cons, ih]
      tauto

theorem Memory.insert_wf (m : Memory) (a : Nat) (v : Byte) (hm : Memory.wf m) (hne : ∀ c ∈ m, c.1 ≠ a)
    (ha : a < Config.memorySize) (hv : v ≠ Config.unlistedByte) : Memory.wf (Memory.insert m a v) := by
  induction m with
  | nil => exact (Memory.wf_cons _ _).2 ⟨by simp, ha, hv, Memory.wf_nil⟩
  | cons c rest ih =>
    obtain ⟨h1, h2, h3, h4⟩ := (Memory.wf_cons c rest).1 hm
    simp only [Memory.insert]
    split
    · rename_i hlt
      refine (Memory.wf_cons _ _).2 ⟨?_, ha, hv, hm⟩
      intro x hx
      rcases List.mem_cons.1 hx with rfl | hx
      · exact hlt
      · exact Nat.lt_trans hlt (h1 x hx)
    · rename_i hge
      have hc : c.1 ≠ a := hne c (by simp)
      refine (Memory.wf_cons _ _).2 ⟨?_, h2, h3, ih h4 (fun d hd => hne d (by simp [hd]))⟩
      intro x hx
      rcases (Memory.mem_insert rest a v x).1 hx with rfl | hx
      · show c.1 < a
        omega
      · exact h1 x hx

/-- Every write keeps the canonical form. -/
theorem Memory.write_wf (m : Memory) (a : Nat) (v : Byte) (hm : Memory.wf m) (ha : a < Config.memorySize) :
    Memory.wf (Memory.write m a v) := by
  unfold Memory.write
  split
  · exact Memory.erase_wf m a hm
  · rename_i hv
    exact Memory.insert_wf _ a v (Memory.erase_wf m a hm)
      (fun c hc => ((Memory.mem_erase m a c).1 hc).2) ha hv

/-- An address below every listed one is not listed. -/
theorem Memory.read_below (m : Memory) (a : Nat) (h : ∀ x ∈ m, a < x.1) : Memory.read m a = Config.unlistedByte := by
  induction m with
  | nil => rfl
  | cons c rest ih =>
    have hc := h c (by simp)
    rw [Memory.read_cons, if_neg (by omega), ih (fun x hx => h x (by simp [hx]))]

/-- Memories in canonical form that read alike are the same list. -/
theorem Memory.ext_of_wf (m n : Memory) (hm : Memory.wf m) (hn : Memory.wf n)
    (h : ∀ a, Memory.read m a = Memory.read n a) : m = n := by
  induction m generalizing n with
  | nil =>
    cases n with
    | nil => rfl
    | cons d n =>
      obtain ⟨_, _, h3, _⟩ := (Memory.wf_cons d n).1 hn
      have := h d.1
      simp [Memory.read] at this
      exact absurd this.symm h3
  | cons c m ih =>
    obtain ⟨h1, _, h3, h4⟩ := (Memory.wf_cons c m).1 hm
    cases n with
    | nil =>
      have := h c.1
      simp [Memory.read] at this
      exact absurd this h3
    | cons d n =>
      obtain ⟨k1, _, k3, k4⟩ := (Memory.wf_cons d n).1 hn
      have hcd : c.1 = d.1 := by
        rcases Nat.lt_trichotomy c.1 d.1 with hlt | heq | hgt
        · have hb := Memory.read_below (d :: n) c.1 (by
            intro x hx
            rcases List.mem_cons.1 hx with rfl | hx
            · exact hlt
            · exact Nat.lt_trans hlt (k1 x hx))
          have := h c.1
          rw [hb, Memory.read_cons, if_pos rfl] at this
          exact absurd this h3
        · exact heq
        · have hb := Memory.read_below (c :: m) d.1 (by
            intro x hx
            rcases List.mem_cons.1 hx with rfl | hx
            · exact hgt
            · exact Nat.lt_trans hgt (h1 x hx))
          have := h d.1
          rw [hb, Memory.read_cons, if_pos rfl] at this
          exact absurd this.symm k3
      have hv : c.2 = d.2 := by
        have := h c.1
        rwa [Memory.read_cons, Memory.read_cons, if_pos rfl, if_pos hcd.symm] at this
      have hrest : m = n := by
        refine ih n h4 k4 (fun a => ?_)
        by_cases ha : c.1 = a
        · rw [Memory.read_below m a (by simpa [ha] using h1), Memory.read_below n a (by
            intro x hx
            have := k1 x hx
            omega)]
        · have := h a
          rwa [Memory.read_cons, Memory.read_cons, if_neg ha, if_neg (by omega)] at this
      rw [hrest, Prod.ext hcd hv]

end Sys2Proof.Machine
end

