-- ==== Sys2Proof/Laws/State.lean ====
section
/-! SUPPORT. One lemma per field and update, so that no later proof unfolds a record update, and what push and pop do. -/

namespace Sys2Proof.Machine

@[simp] theorem State.setReg_f (s : State) (r : Reg8) (v : Byte) : (s.setReg r v).f = s.f := by cases r <;> rfl
@[simp] theorem State.setReg_sp (s : State) (r : Reg8) (v : Byte) : (s.setReg r v).sp = s.sp := by cases r <;> rfl
@[simp] theorem State.setReg_pc (s : State) (r : Reg8) (v : Byte) : (s.setReg r v).pc = s.pc := by cases r <;> rfl
@[simp] theorem State.setReg_mcycles (s : State) (r : Reg8) (v : Byte) : (s.setReg r v).mcycles = s.mcycles := by cases r <;> rfl
@[simp] theorem State.setReg_mem (s : State) (r : Reg8) (v : Byte) : (s.setReg r v).mem = s.mem := by cases r <;> rfl
@[simp] theorem State.setReg_read8 (s : State) (r : Reg8) (v : Byte) (addr : Word) : (s.setReg r v).read8 addr = s.read8 addr := by cases r <;> rfl
/-- Writing one register writes that one only (R21). -/
@[simp] theorem State.reg_setReg (s : State) (r q : Reg8) (v : Byte) :
    (s.setReg r v).reg q = if q = r then v else s.reg q := by
  cases r <;> cases q <;> rfl

@[simp] theorem State.writeF_f (s : State) (v : Byte) : (s.writeF v).f = maskF v := rfl
@[simp] theorem State.writeF_sp (s : State) (v : Byte) : (s.writeF v).sp = s.sp := rfl
@[simp] theorem State.writeF_pc (s : State) (v : Byte) : (s.writeF v).pc = s.pc := rfl
@[simp] theorem State.writeF_mcycles (s : State) (v : Byte) : (s.writeF v).mcycles = s.mcycles := rfl
@[simp] theorem State.writeF_mem (s : State) (v : Byte) : (s.writeF v).mem = s.mem := rfl
@[simp] theorem State.writeF_reg (s : State) (v : Byte) (q : Reg8) : (s.writeF v).reg q = s.reg q := by cases q <;> rfl
@[simp] theorem State.writeF_read8 (s : State) (v : Byte) (addr : Word) : (s.writeF v).read8 addr = s.read8 addr := rfl

@[simp] theorem State.setFlags_f (s : State) (fl : Flags) : (s.setFlags fl).f = fl.toByte := maskF_toByte fl
@[simp] theorem State.setFlags_sp (s : State) (fl : Flags) : (s.setFlags fl).sp = s.sp := rfl
@[simp] theorem State.setFlags_pc (s : State) (fl : Flags) : (s.setFlags fl).pc = s.pc := rfl
@[simp] theorem State.setFlags_mcycles (s : State) (fl : Flags) : (s.setFlags fl).mcycles = s.mcycles := rfl
@[simp] theorem State.setFlags_mem (s : State) (fl : Flags) : (s.setFlags fl).mem = s.mem := rfl
@[simp] theorem State.setFlags_reg (s : State) (fl : Flags) (q : Reg8) : (s.setFlags fl).reg q = s.reg q := by cases q <;> rfl
@[simp] theorem State.setFlags_read8 (s : State) (fl : Flags) (addr : Word) : (s.setFlags fl).read8 addr = s.read8 addr := rfl

@[simp] theorem State.write8_a (s : State) (addr : Word) (v : Byte) : (s.write8 addr v).a = s.a := rfl
@[simp] theorem State.write8_b (s : State) (addr : Word) (v : Byte) : (s.write8 addr v).b = s.b := rfl
@[simp] theorem State.write8_c (s : State) (addr : Word) (v : Byte) : (s.write8 addr v).c = s.c := rfl
@[simp] theorem State.write8_d (s : State) (addr : Word) (v : Byte) : (s.write8 addr v).d = s.d := rfl
@[simp] theorem State.write8_e (s : State) (addr : Word) (v : Byte) : (s.write8 addr v).e = s.e := rfl
@[simp] theorem State.write8_h (s : State) (addr : Word) (v : Byte) : (s.write8 addr v).h = s.h := rfl
@[simp] theorem State.write8_l (s : State) (addr : Word) (v : Byte) : (s.write8 addr v).l = s.l := rfl
@[simp] theorem State.write8_f (s : State) (addr : Word) (v : Byte) : (s.write8 addr v).f = s.f := rfl
@[simp] theorem State.write8_sp (s : State) (addr : Word) (v : Byte) : (s.write8 addr v).sp = s.sp := rfl
@[simp] theorem State.write8_pc (s : State) (addr : Word) (v : Byte) : (s.write8 addr v).pc = s.pc := rfl
@[simp] theorem State.write8_mcycles (s : State) (addr : Word) (v : Byte) : (s.write8 addr v).mcycles = s.mcycles := rfl
@[simp] theorem State.write8_reg (s : State) (addr : Word) (v : Byte) (q : Reg8) : (s.write8 addr v).reg q = s.reg q := by cases q <;> rfl
@[simp] theorem State.write8_pair (s : State) (addr : Word) (v : Byte) (p : Pair) : (s.write8 addr v).pair p = s.pair p := by cases p <;> rfl
@[simp] theorem State.setSP_f (s : State) (v : Word) : (s.setSP v).f = s.f := rfl
@[simp] theorem State.setSP_sp (s : State) (v : Word) : (s.setSP v).sp = v := rfl
@[simp] theorem State.setSP_pc (s : State) (v : Word) : (s.setSP v).pc = s.pc := rfl
@[simp] theorem State.setSP_mcycles (s : State) (v : Word) : (s.setSP v).mcycles = s.mcycles := rfl
@[simp] theorem State.setSP_mem (s : State) (v : Word) : (s.setSP v).mem = s.mem := rfl
@[simp] theorem State.setSP_reg (s : State) (v : Word) (q : Reg8) : (s.setSP v).reg q = s.reg q := by cases q <;> rfl
@[simp] theorem State.setSP_read8 (s : State) (v addr : Word) : (s.setSP v).read8 addr = s.read8 addr := rfl

/-- A byte read after a byte written (R51, R52). -/
theorem State.read8_write8 (s : State) (addr b : Word) (v : Byte) :
    (s.write8 addr v).read8 b = if b = addr then v else s.read8 b := by
  unfold State.read8 State.write8
  split
  · rename_i h
    rw [h, Memory.read_write_same]
  · rename_i h
    exact Memory.read_write_other _ _ _ _ (fun hb => h (BitVec.eq_of_toNat_eq hb))

/-- A byte written keeps memory's canonical form. -/
theorem State.write8_wf (s : State) (addr : Word) (v : Byte) (h : s.mem.wf) : (s.write8 addr v).mem.wf :=
  Memory.write_wf _ _ _ h addr.isLt

@[simp] theorem State.advance_a (s : State) (fm : Form) : (s.advance fm).a = s.a := rfl
@[simp] theorem State.advance_f (s : State) (fm : Form) : (s.advance fm).f = s.f := rfl
@[simp] theorem State.advance_b (s : State) (fm : Form) : (s.advance fm).b = s.b := rfl
@[simp] theorem State.advance_c (s : State) (fm : Form) : (s.advance fm).c = s.c := rfl
@[simp] theorem State.advance_d (s : State) (fm : Form) : (s.advance fm).d = s.d := rfl
@[simp] theorem State.advance_e (s : State) (fm : Form) : (s.advance fm).e = s.e := rfl
@[simp] theorem State.advance_h (s : State) (fm : Form) : (s.advance fm).h = s.h := rfl
@[simp] theorem State.advance_l (s : State) (fm : Form) : (s.advance fm).l = s.l := rfl
@[simp] theorem State.advance_sp (s : State) (fm : Form) : (s.advance fm).sp = s.sp := rfl
@[simp] theorem State.advance_mem (s : State) (fm : Form) : (s.advance fm).mem = s.mem := rfl
@[simp] theorem State.advance_mcycles (s : State) (fm : Form) : (s.advance fm).mcycles = s.mcycles := rfl
@[simp] theorem State.advance_reg (s : State) (fm : Form) (q : Reg8) : (s.advance fm).reg q = s.reg q := by cases q <;> rfl
@[simp] theorem State.advance_pair (s : State) (fm : Form) (p : Pair) : (s.advance fm).pair p = s.pair p := by cases p <;> rfl
@[simp] theorem State.advance_read8 (s : State) (fm : Form) (addr : Word) : (s.advance fm).read8 addr = s.read8 addr := rfl
@[simp] theorem State.advance_flag (s : State) (fm : Form) (x : Flag) : (s.advance fm).flag x = s.flag x := rfl
@[simp] theorem State.addCycles_a (s : State) (n : Nat) : (s.addCycles n).a = s.a := rfl
@[simp] theorem State.addCycles_f (s : State) (n : Nat) : (s.addCycles n).f = s.f := rfl
@[simp] theorem State.addCycles_b (s : State) (n : Nat) : (s.addCycles n).b = s.b := rfl
@[simp] theorem State.addCycles_c (s : State) (n : Nat) : (s.addCycles n).c = s.c := rfl
@[simp] theorem State.addCycles_d (s : State) (n : Nat) : (s.addCycles n).d = s.d := rfl
@[simp] theorem State.addCycles_e (s : State) (n : Nat) : (s.addCycles n).e = s.e := rfl
@[simp] theorem State.addCycles_h (s : State) (n : Nat) : (s.addCycles n).h = s.h := rfl
@[simp] theorem State.addCycles_l (s : State) (n : Nat) : (s.addCycles n).l = s.l := rfl
@[simp] theorem State.addCycles_sp (s : State) (n : Nat) : (s.addCycles n).sp = s.sp := rfl
@[simp] theorem State.addCycles_mem (s : State) (n : Nat) : (s.addCycles n).mem = s.mem := rfl
@[simp] theorem State.addCycles_pc (s : State) (n : Nat) : (s.addCycles n).pc = s.pc := rfl
@[simp] theorem State.addCycles_reg (s : State) (n : Nat) (q : Reg8) : (s.addCycles n).reg q = s.reg q := by cases q <;> rfl
@[simp] theorem State.addCycles_pair (s : State) (n : Nat) (p : Pair) : (s.addCycles n).pair p = s.pair p := by cases p <;> rfl
@[simp] theorem State.addCycles_read8 (s : State) (n : Nat) (addr : Word) : (s.addCycles n).read8 addr = s.read8 addr := rfl
@[simp] theorem State.addCycles_flag (s : State) (n : Nat) (x : Flag) : (s.addCycles n).flag x = s.flag x := rfl
@[simp] theorem State.advance_pc (s : State) (fm : Form) : (s.advance fm).pc = s.pc + BitVec.ofNat 16 fm.length := rfl
@[simp] theorem State.addCycles_mcycles (s : State) (n : Nat) : (s.addCycles n).mcycles = s.mcycles + BitVec.ofNat 64 n := rfl

@[simp] theorem State.setPair_pc (s : State) (p : Pair) (v : Word) : (s.setPair p v).pc = s.pc := by cases p <;> rfl
@[simp] theorem State.setPair_mcycles (s : State) (p : Pair) (v : Word) : (s.setPair p v).mcycles = s.mcycles := by cases p <;> rfl
@[simp] theorem State.setPair_mem (s : State) (p : Pair) (v : Word) : (s.setPair p v).mem = s.mem := by cases p <;> rfl
@[simp] theorem State.setPair_read8 (s : State) (p : Pair) (v : Word) (addr : Word) : (s.setPair p v).read8 addr = s.read8 addr := by cases p <;> rfl
/-- A pair read after it is written gives the value, F masked (R22, R23, R26). -/
theorem State.pair_setPair (s : State) (p : Pair) (v : Word) :
    (s.setPair p v).pair p = match p with
      | .af => join (hiByte v) (maskF (loByte v))
      | .bc | .de | .hl | .sp => v := by
  cases p <;> first | rfl | exact join_hiByte_loByte v

/-- Writing a pair other than AF leaves F alone. -/
theorem State.setPair_f (s : State) (p : Pair) (v : Word) (hp : p ≠ .af) : (s.setPair p v).f = s.f := by
  cases p <;> first | rfl | exact absurd rfl hp

/-- Writing a pair other than SP leaves SP alone. -/
theorem State.setPair_sp (s : State) (p : Pair) (v : Word) (hp : p ≠ .sp) : (s.setPair p v).sp = s.sp := by
  cases p <;> first | rfl | exact absurd rfl hp

/-- A pair written into F leaves F[3:0] zero, or F was not written (R26). -/
theorem State.setPair_low (s : State) (p : Pair) (v : Word) (h : s.f &&& 0x0F#8 = 0#8) :
    (s.setPair p v).f &&& 0x0F#8 = 0#8 := by
  cases p <;> first | exact h | exact maskF_low _

@[simp] theorem State.push16_f (s : State) (v : Word) : (s.push16 v).f = s.f := rfl
@[simp] theorem State.push16_sp (s : State) (v : Word) : (s.push16 v).sp = s.sp - 1 - 1 := rfl
@[simp] theorem State.push16_pc (s : State) (v : Word) : (s.push16 v).pc = s.pc := rfl
@[simp] theorem State.push16_mcycles (s : State) (v : Word) : (s.push16 v).mcycles = s.mcycles := rfl
@[simp] theorem State.push16_reg (s : State) (v : Word) (q : Reg8) : (s.push16 v).reg q = s.reg q := by cases q <;> rfl

/-- What a push stores (R163): the high byte at SP-1, then the low byte at SP-2, modulo 65536. -/
theorem State.read8_push16 (s : State) (v : Word) (addr : Word) :
    (s.push16 v).read8 addr =
      if addr = s.sp - 1 - 1 then loByte v else if addr = s.sp - 1 then hiByte v else s.read8 addr := by
  simp only [State.push16, State.read8_write8, State.setSP_read8, State.setSP_sp, State.write8_sp]

theorem State.push16_wf (s : State) (v : Word) (h : s.mem.wf) : (s.push16 v).mem.wf :=
  State.write8_wf _ _ _ (State.write8_wf _ _ _ h)

/-- What a pop reads (R165). -/
theorem State.pop16_val (s : State) : s.pop16.1 = join (s.read8 (s.sp + 1)) (s.read8 s.sp) := rfl

/-- What a pop changes: SP, up by 2 modulo 65536, and nothing else (R165). -/
theorem State.pop16_state (s : State) : s.pop16.2 = s.setSP (s.sp + 1 + 1) := rfl

end Sys2Proof.Machine
end

