-- ==== Sys2Proof/Laws/Exec.lean ====
section
/-! SUPPORT. What an instruction can do, said once, by its form: every meaning but INVALID's is `finish` of one effect, so a fact about
every instruction is a fact about 27 effects. -/

namespace Sys2Proof.Machine

/-- The effect of a form on registers, flags and memory, before PC moves on. -/
def effect (fm : Form) (s : State) : State :=
  match fm with
  | .ldRR dst src => s.setReg dst (s.reg src)
  | .ldRN dst n => s.setReg dst n
  | .ldRHL dst => s.setReg dst (s.read8 s.addrHL)
  | .ldHLR src => s.write8 s.addrHL (s.reg src)
  | .ldHLN n => s.write8 s.addrHL n
  | .ldABC => s.setReg .a (s.read8 s.addrBC)
  | .ldADE => s.setReg .a (s.read8 s.addrDE)
  | .ldBCA => s.write8 s.addrBC (s.reg .a)
  | .ldDEA => s.write8 s.addrDE (s.reg .a)
  | .ldANN nn => s.setReg .a (s.read8 nn)
  | .ldNNA nn => s.write8 nn (s.reg .a)
  | .ldhAC => s.setReg .a (s.read8 s.addrHramC)
  | .ldhCA => s.write8 s.addrHramC (s.reg .a)
  | .ldhAN n => s.setReg .a (s.read8 (hram n))
  | .ldhNA n => s.write8 (hram n) (s.reg .a)
  | .ldAHLI => (s.setReg .a (s.read8 s.addrHL)).incHL
  | .ldAHLD => (s.setReg .a (s.read8 s.addrHL)).decHL
  | .ldHLIA => (s.write8 s.addrHL (s.reg .a)).incHL
  | .ldHLDA => (s.write8 s.addrHL (s.reg .a)).decHL
  | .ldRRNN p nn => s.setPair p.pair nn
  | .push p => s.push16 (s.pair p.pair)
  | .pop p => s.pop16.2.setPair p.pair s.pop16.1
  | .ldSPHL => s.setSP (s.pair .hl)
  | .ldHLSPE e => (s.setPair .hl (s.spPlus e)).setFlags (spOffsetFlags s.sp e)
  | .aluR op r => s.alu op (s.reg r)
  | .aluHL op => s.alu op s.operandHL
  | .aluN op n => s.alu op n
  | .invalid _ => s

/-- INVALID alone has the empty form. -/
theorem form_eq_invalid (i : Instr) (op : Byte) : i.form = .invalid op ↔ i = .invalid op := by
  cases i <;> simp [Instr.form]

/-- Every instruction of the opcode map executes: its effect, then PC. -/
theorem exec_defined (i : Instr) (s : State) (h : ∀ op, i.form ≠ .invalid op) :
    exec i s = finish i.form (effect i.form s) := by
  cases i <;> first | rfl | exact absurd rfl (h _)

/-- What an instruction of a known form answers. -/
theorem exec_of_form (i : Instr) (fm : Form) (s : State) (h : i.form = fm) (hn : ∀ op, fm ≠ .invalid op) :
    exec i s = .next ((effect fm s).advance fm) := by
  subst h
  exact exec_defined i s hn

/-- An empty entry raises Invalid Opcode (R231, R232). -/
theorem exec_empty (op : Byte) (s : State) :
    exec (.invalid op) s = .fault (.invalidOpcode op s.pc s.afterInvalidOpcode) := rfl

/-- All that `exec` can answer with a next state. -/
theorem exec_next (i : Instr) (s t : State) :
    exec i s = .next t ↔
      (∀ op, i.form ≠ .invalid op) ∧ t = (effect i.form s).advance i.form := by
  by_cases h : ∀ op, i.form ≠ .invalid op
  · rw [exec_defined i s h, finish]
    simp only [Host.Outcome.next.injEq]
    exact ⟨fun ht => ⟨h, ht.symm⟩, fun ht => ht.2.symm⟩
  · have hi : ∃ op, i.form = .invalid op := by
      by_contra hc
      exact h (fun op ho => hc ⟨op, ho⟩)
    obtain ⟨op, hop⟩ := hi
    rw [(form_eq_invalid i op).1 hop, exec_empty]
    simp [Instr.form]

/-- All that `exec` can answer with a fault. -/
theorem exec_fault (i : Instr) (s : State) (r : Fault) :
    exec i s = .fault r ↔ ∃ op, i = .invalid op ∧ r = .invalidOpcode op s.pc s.afterInvalidOpcode := by
  by_cases h : ∀ op, i.form ≠ .invalid op
  · rw [exec_defined i s h, finish]
    refine ⟨fun hf => (nomatch hf), ?_⟩
    rintro ⟨op, rfl, -⟩
    exact absurd rfl (h op)
  · have hi : ∃ op, i.form = .invalid op := by
      by_contra hc
      exact h (fun op ho => hc ⟨op, ho⟩)
    obtain ⟨op, hop⟩ := hi
    rw [(form_eq_invalid i op).1 hop, exec_empty]
    constructor
    · intro hf
      cases hf
      exact ⟨op, rfl, rfl⟩
    · rintro ⟨op', hop', rfl⟩
      cases hop'
      rfl

/-- No instruction is refused. -/
theorem exec_not_refused (i : Instr) (s : State) (r : Refusal) : exec i s ≠ .refused r := by
  cases i <;> exact fun h => by cases h

@[simp] theorem alu_pc (s : State) (op : AluOp) (b : Byte) : (s.alu op b).pc = s.pc := by cases op <;> rfl
@[simp] theorem alu_sp (s : State) (op : AluOp) (b : Byte) : (s.alu op b).sp = s.sp := by cases op <;> rfl
@[simp] theorem alu_mcycles (s : State) (op : AluOp) (b : Byte) : (s.alu op b).mcycles = s.mcycles := by cases op <;> rfl
@[simp] theorem alu_mem (s : State) (op : AluOp) (b : Byte) : (s.alu op b).mem = s.mem := by cases op <;> rfl

@[simp] theorem alu_read8 (s : State) (op : AluOp) (b : Byte) (addr : Word) :
    (s.alu op b).read8 addr = s.read8 addr := by cases op <;> rfl

/-- An ALU operation writes no register but A (R190). -/
theorem alu_reg_other (s : State) (op : AluOp) (b : Byte) (q : Reg8) (h : q ≠ .a) : (s.alu op b).reg q = s.reg q := by
  cases op <;> cases q <;> first | rfl | exact absurd rfl h

/-- No effect moves PC (R30). -/
@[simp] theorem effect_pc (fm : Form) (s : State) : (effect fm s).pc = s.pc := by
  cases fm <;>
    simp [effect, State.incHL, State.decHL, State.pop16_state, State.pop16_val]

/-- No effect moves the counter (R33). -/
@[simp] theorem effect_mcycles (fm : Form) (s : State) : (effect fm s).mcycles = s.mcycles := by
  cases fm <;>
    simp [effect, State.incHL, State.decHL, State.pop16_state, State.pop16_val]

end Sys2Proof.Machine
end

