-- ==== Sys2Proof/Laws/Fetch.lean ====
section
/-! SUPPORT. What the opcode byte alone decides (R82), and what a fetch reads. -/

namespace Sys2Proof.Machine

/-- The length of an instruction is one plus the immediate bytes its entry of the opcode map takes (R95). -/
theorem opcodeMap_length (op : Byte) :
    match opcodeMap op with
    | .plain i => i.length = 1
    | .imm8 k => ∀ n, (k n).length = 2
    | .imm16 k => ∀ nn, (k nn).length = 3 := by
  obtain ⟨k, hk⟩ := op
  interval_cases k <;> first | exact rfl | exact fun _ => rfl

/-- A fetch gives the instruction the opcode map reads from the bytes at PC, and moves PC past its length (R30, R80, R95). -/
theorem fetchInstr_eq (s : State) :
    fetchInstr s =
      (decodeOp (s.read8 s.pc) (s.read8 (s.pc + 1)) (s.read8 (s.pc + 1 + 1)),
        { s with
          pc := s.pc + BitVec.ofNat 16
            (decodeOp (s.read8 s.pc) (s.read8 (s.pc + 1)) (s.read8 (s.pc + 1 + 1))).length }) := by
  have h := opcodeMap_length (s.read8 s.pc)
  simp only [fetchInstr, State.fetch16, State.fetch8, decodeOp]
  cases hop : opcodeMap (s.read8 s.pc) <;> rw [hop] at h
  · simp only [h]
    rfl
  · simp only [h, BitVec.add_assoc]
    rfl
  · simp only [h, BitVec.add_assoc]
    rfl

/-- All that a step can answer with a next state: what the instruction at PC answers, with the machine cycles of its opcode byte added
(R80). -/
theorem stepWith_next (mc : CycleTable) (s t : State) :
    stepWith mc s = .next t ↔
      ∃ u, exec (fetchInstr s).1 s = .next u ∧ t = u.addCycles (mc (s.read8 s.pc)) := by
  unfold stepWith
  cases exec (fetchInstr s).1 s <;> simp [eq_comm]

/-- All that a step can answer with a fault: what the instruction at PC answers. -/
theorem stepWith_fault (mc : CycleTable) (s : State) (r : Fault) :
    stepWith mc s = .fault r ↔ exec (fetchInstr s).1 s = .fault r := by
  unfold stepWith
  cases exec (fetchInstr s).1 s <;> simp

end Sys2Proof.Machine
end

