-- ==== Sys2Proof/Laws/PerInstr.lean ====
section
/-! SUPPORT. Facts about every instruction as syntax, one lemma per constructor. Family EncodeLength: the encoder gives as many bytes
as the instruction's length says (R95), for every operand. -/

namespace Sys2Proof.Laws

/-- The bytes of an instruction are as many as its length (R82, R95). -/
def EncodeLength.Statement (i : Instr) : Prop := (encode i).length = i.length

theorem EncodeLength.ld_bc_nn (nn : Word) : EncodeLength.Statement (.ld_bc_nn nn) := rfl
theorem EncodeLength.ld_mbc_a : EncodeLength.Statement .ld_mbc_a := rfl
theorem EncodeLength.ld_b_n (n : Byte) : EncodeLength.Statement (.ld_b_n n) := rfl
theorem EncodeLength.ld_a_mbc : EncodeLength.Statement .ld_a_mbc := rfl
theorem EncodeLength.ld_c_n (n : Byte) : EncodeLength.Statement (.ld_c_n n) := rfl
theorem EncodeLength.ld_de_nn (nn : Word) : EncodeLength.Statement (.ld_de_nn nn) := rfl
theorem EncodeLength.ld_mde_a : EncodeLength.Statement .ld_mde_a := rfl
theorem EncodeLength.ld_d_n (n : Byte) : EncodeLength.Statement (.ld_d_n n) := rfl
theorem EncodeLength.ld_a_mde : EncodeLength.Statement .ld_a_mde := rfl
theorem EncodeLength.ld_e_n (n : Byte) : EncodeLength.Statement (.ld_e_n n) := rfl
theorem EncodeLength.ld_hl_nn (nn : Word) : EncodeLength.Statement (.ld_hl_nn nn) := rfl
theorem EncodeLength.ld_mhli_a : EncodeLength.Statement .ld_mhli_a := rfl
theorem EncodeLength.ld_h_n (n : Byte) : EncodeLength.Statement (.ld_h_n n) := rfl
theorem EncodeLength.ld_a_mhli : EncodeLength.Statement .ld_a_mhli := rfl
theorem EncodeLength.ld_l_n (n : Byte) : EncodeLength.Statement (.ld_l_n n) := rfl
theorem EncodeLength.ld_sp_nn (nn : Word) : EncodeLength.Statement (.ld_sp_nn nn) := rfl
theorem EncodeLength.ld_mhld_a : EncodeLength.Statement .ld_mhld_a := rfl
theorem EncodeLength.ld_mhl_n (n : Byte) : EncodeLength.Statement (.ld_mhl_n n) := rfl
theorem EncodeLength.ld_a_mhld : EncodeLength.Statement .ld_a_mhld := rfl
theorem EncodeLength.ld_a_n (n : Byte) : EncodeLength.Statement (.ld_a_n n) := rfl
theorem EncodeLength.ld_b_b : EncodeLength.Statement .ld_b_b := rfl
theorem EncodeLength.ld_b_c : EncodeLength.Statement .ld_b_c := rfl
theorem EncodeLength.ld_b_d : EncodeLength.Statement .ld_b_d := rfl
theorem EncodeLength.ld_b_e : EncodeLength.Statement .ld_b_e := rfl
theorem EncodeLength.ld_b_h : EncodeLength.Statement .ld_b_h := rfl
theorem EncodeLength.ld_b_l : EncodeLength.Statement .ld_b_l := rfl
theorem EncodeLength.ld_b_mhl : EncodeLength.Statement .ld_b_mhl := rfl
theorem EncodeLength.ld_b_a : EncodeLength.Statement .ld_b_a := rfl
theorem EncodeLength.ld_c_b : EncodeLength.Statement .ld_c_b := rfl
theorem EncodeLength.ld_c_c : EncodeLength.Statement .ld_c_c := rfl
theorem EncodeLength.ld_c_d : EncodeLength.Statement .ld_c_d := rfl
theorem EncodeLength.ld_c_e : EncodeLength.Statement .ld_c_e := rfl
theorem EncodeLength.ld_c_h : EncodeLength.Statement .ld_c_h := rfl
theorem EncodeLength.ld_c_l : EncodeLength.Statement .ld_c_l := rfl
theorem EncodeLength.ld_c_mhl : EncodeLength.Statement .ld_c_mhl := rfl
theorem EncodeLength.ld_c_a : EncodeLength.Statement .ld_c_a := rfl
theorem EncodeLength.ld_d_b : EncodeLength.Statement .ld_d_b := rfl
theorem EncodeLength.ld_d_c : EncodeLength.Statement .ld_d_c := rfl
theorem EncodeLength.ld_d_d : EncodeLength.Statement .ld_d_d := rfl
theorem EncodeLength.ld_d_e : EncodeLength.Statement .ld_d_e := rfl
theorem EncodeLength.ld_d_h : EncodeLength.Statement .ld_d_h := rfl
theorem EncodeLength.ld_d_l : EncodeLength.Statement .ld_d_l := rfl
theorem EncodeLength.ld_d_mhl : EncodeLength.Statement .ld_d_mhl := rfl
theorem EncodeLength.ld_d_a : EncodeLength.Statement .ld_d_a := rfl
theorem EncodeLength.ld_e_b : EncodeLength.Statement .ld_e_b := rfl
theorem EncodeLength.ld_e_c : EncodeLength.Statement .ld_e_c := rfl
theorem EncodeLength.ld_e_d : EncodeLength.Statement .ld_e_d := rfl
theorem EncodeLength.ld_e_e : EncodeLength.Statement .ld_e_e := rfl
theorem EncodeLength.ld_e_h : EncodeLength.Statement .ld_e_h := rfl
theorem EncodeLength.ld_e_l : EncodeLength.Statement .ld_e_l := rfl
theorem EncodeLength.ld_e_mhl : EncodeLength.Statement .ld_e_mhl := rfl
theorem EncodeLength.ld_e_a : EncodeLength.Statement .ld_e_a := rfl
theorem EncodeLength.ld_h_b : EncodeLength.Statement .ld_h_b := rfl
theorem EncodeLength.ld_h_c : EncodeLength.Statement .ld_h_c := rfl
theorem EncodeLength.ld_h_d : EncodeLength.Statement .ld_h_d := rfl
theorem EncodeLength.ld_h_e : EncodeLength.Statement .ld_h_e := rfl
theorem EncodeLength.ld_h_h : EncodeLength.Statement .ld_h_h := rfl
theorem EncodeLength.ld_h_l : EncodeLength.Statement .ld_h_l := rfl
theorem EncodeLength.ld_h_mhl : EncodeLength.Statement .ld_h_mhl := rfl
theorem EncodeLength.ld_h_a : EncodeLength.Statement .ld_h_a := rfl
theorem EncodeLength.ld_l_b : EncodeLength.Statement .ld_l_b := rfl
theorem EncodeLength.ld_l_c : EncodeLength.Statement .ld_l_c := rfl
theorem EncodeLength.ld_l_d : EncodeLength.Statement .ld_l_d := rfl
theorem EncodeLength.ld_l_e : EncodeLength.Statement .ld_l_e := rfl
theorem EncodeLength.ld_l_h : EncodeLength.Statement .ld_l_h := rfl
theorem EncodeLength.ld_l_l : EncodeLength.Statement .ld_l_l := rfl
theorem EncodeLength.ld_l_mhl : EncodeLength.Statement .ld_l_mhl := rfl
theorem EncodeLength.ld_l_a : EncodeLength.Statement .ld_l_a := rfl
theorem EncodeLength.ld_mhl_b : EncodeLength.Statement .ld_mhl_b := rfl
theorem EncodeLength.ld_mhl_c : EncodeLength.Statement .ld_mhl_c := rfl
theorem EncodeLength.ld_mhl_d : EncodeLength.Statement .ld_mhl_d := rfl
theorem EncodeLength.ld_mhl_e : EncodeLength.Statement .ld_mhl_e := rfl
theorem EncodeLength.ld_mhl_h : EncodeLength.Statement .ld_mhl_h := rfl
theorem EncodeLength.ld_mhl_l : EncodeLength.Statement .ld_mhl_l := rfl
theorem EncodeLength.ld_mhl_a : EncodeLength.Statement .ld_mhl_a := rfl
theorem EncodeLength.ld_a_b : EncodeLength.Statement .ld_a_b := rfl
theorem EncodeLength.ld_a_c : EncodeLength.Statement .ld_a_c := rfl
theorem EncodeLength.ld_a_d : EncodeLength.Statement .ld_a_d := rfl
theorem EncodeLength.ld_a_e : EncodeLength.Statement .ld_a_e := rfl
theorem EncodeLength.ld_a_h : EncodeLength.Statement .ld_a_h := rfl
theorem EncodeLength.ld_a_l : EncodeLength.Statement .ld_a_l := rfl
theorem EncodeLength.ld_a_mhl : EncodeLength.Statement .ld_a_mhl := rfl
theorem EncodeLength.ld_a_a : EncodeLength.Statement .ld_a_a := rfl
theorem EncodeLength.add_a_b : EncodeLength.Statement .add_a_b := rfl
theorem EncodeLength.add_a_c : EncodeLength.Statement .add_a_c := rfl
theorem EncodeLength.add_a_d : EncodeLength.Statement .add_a_d := rfl
theorem EncodeLength.add_a_e : EncodeLength.Statement .add_a_e := rfl
theorem EncodeLength.add_a_h : EncodeLength.Statement .add_a_h := rfl
theorem EncodeLength.add_a_l : EncodeLength.Statement .add_a_l := rfl
theorem EncodeLength.add_a_mhl : EncodeLength.Statement .add_a_mhl := rfl
theorem EncodeLength.add_a_a : EncodeLength.Statement .add_a_a := rfl
theorem EncodeLength.adc_a_b : EncodeLength.Statement .adc_a_b := rfl
theorem EncodeLength.adc_a_c : EncodeLength.Statement .adc_a_c := rfl
theorem EncodeLength.adc_a_d : EncodeLength.Statement .adc_a_d := rfl
theorem EncodeLength.adc_a_e : EncodeLength.Statement .adc_a_e := rfl
theorem EncodeLength.adc_a_h : EncodeLength.Statement .adc_a_h := rfl
theorem EncodeLength.adc_a_l : EncodeLength.Statement .adc_a_l := rfl
theorem EncodeLength.adc_a_mhl : EncodeLength.Statement .adc_a_mhl := rfl
theorem EncodeLength.adc_a_a : EncodeLength.Statement .adc_a_a := rfl
theorem EncodeLength.sub_a_b : EncodeLength.Statement .sub_a_b := rfl
theorem EncodeLength.sub_a_c : EncodeLength.Statement .sub_a_c := rfl
theorem EncodeLength.sub_a_d : EncodeLength.Statement .sub_a_d := rfl
theorem EncodeLength.sub_a_e : EncodeLength.Statement .sub_a_e := rfl
theorem EncodeLength.sub_a_h : EncodeLength.Statement .sub_a_h := rfl
theorem EncodeLength.sub_a_l : EncodeLength.Statement .sub_a_l := rfl
theorem EncodeLength.sub_a_mhl : EncodeLength.Statement .sub_a_mhl := rfl
theorem EncodeLength.sub_a_a : EncodeLength.Statement .sub_a_a := rfl
theorem EncodeLength.sbc_a_b : EncodeLength.Statement .sbc_a_b := rfl
theorem EncodeLength.sbc_a_c : EncodeLength.Statement .sbc_a_c := rfl
theorem EncodeLength.sbc_a_d : EncodeLength.Statement .sbc_a_d := rfl
theorem EncodeLength.sbc_a_e : EncodeLength.Statement .sbc_a_e := rfl
theorem EncodeLength.sbc_a_h : EncodeLength.Statement .sbc_a_h := rfl
theorem EncodeLength.sbc_a_l : EncodeLength.Statement .sbc_a_l := rfl
theorem EncodeLength.sbc_a_mhl : EncodeLength.Statement .sbc_a_mhl := rfl
theorem EncodeLength.sbc_a_a : EncodeLength.Statement .sbc_a_a := rfl
theorem EncodeLength.cp_a_b : EncodeLength.Statement .cp_a_b := rfl
theorem EncodeLength.cp_a_c : EncodeLength.Statement .cp_a_c := rfl
theorem EncodeLength.cp_a_d : EncodeLength.Statement .cp_a_d := rfl
theorem EncodeLength.cp_a_e : EncodeLength.Statement .cp_a_e := rfl
theorem EncodeLength.cp_a_h : EncodeLength.Statement .cp_a_h := rfl
theorem EncodeLength.cp_a_l : EncodeLength.Statement .cp_a_l := rfl
theorem EncodeLength.cp_a_mhl : EncodeLength.Statement .cp_a_mhl := rfl
theorem EncodeLength.cp_a_a : EncodeLength.Statement .cp_a_a := rfl
theorem EncodeLength.pop_bc : EncodeLength.Statement .pop_bc := rfl
theorem EncodeLength.push_bc : EncodeLength.Statement .push_bc := rfl
theorem EncodeLength.add_a_n (n : Byte) : EncodeLength.Statement (.add_a_n n) := rfl
theorem EncodeLength.adc_a_n (n : Byte) : EncodeLength.Statement (.adc_a_n n) := rfl
theorem EncodeLength.pop_de : EncodeLength.Statement .pop_de := rfl
theorem EncodeLength.push_de : EncodeLength.Statement .push_de := rfl
theorem EncodeLength.sub_a_n (n : Byte) : EncodeLength.Statement (.sub_a_n n) := rfl
theorem EncodeLength.sbc_a_n (n : Byte) : EncodeLength.Statement (.sbc_a_n n) := rfl
theorem EncodeLength.ldh_mn_a (n : Byte) : EncodeLength.Statement (.ldh_mn_a n) := rfl
theorem EncodeLength.pop_hl : EncodeLength.Statement .pop_hl := rfl
theorem EncodeLength.ldh_mc_a : EncodeLength.Statement .ldh_mc_a := rfl
theorem EncodeLength.push_hl : EncodeLength.Statement .push_hl := rfl
theorem EncodeLength.ld_mnn_a (nn : Word) : EncodeLength.Statement (.ld_mnn_a nn) := rfl
theorem EncodeLength.ldh_a_mn (n : Byte) : EncodeLength.Statement (.ldh_a_mn n) := rfl
theorem EncodeLength.pop_af : EncodeLength.Statement .pop_af := rfl
theorem EncodeLength.ldh_a_mc : EncodeLength.Statement .ldh_a_mc := rfl
theorem EncodeLength.push_af : EncodeLength.Statement .push_af := rfl
theorem EncodeLength.ld_hl_spe (e : Byte) : EncodeLength.Statement (.ld_hl_spe e) := rfl
theorem EncodeLength.ld_sp_hl : EncodeLength.Statement .ld_sp_hl := rfl
theorem EncodeLength.ld_a_mnn (nn : Word) : EncodeLength.Statement (.ld_a_mnn nn) := rfl
theorem EncodeLength.cp_a_n (n : Byte) : EncodeLength.Statement (.cp_a_n n) := rfl
theorem EncodeLength.invalid (op : Byte) : EncodeLength.Statement (.invalid op) := rfl

end Sys2Proof.Laws
end

