-- ==== Sys2Proof/Tests/Slice0.lean ====
section
/-! SUPPORT. Tests, each expected value from the spec: the map of R86, the tables of R87, R95, R96 and R98, and the vectors of
spec/95_test_vectors.md by their ids. Then a witness for each statement that has hypotheses. -/

namespace Sys2Proof.Tests

open Sys2Proof Sys2Proof.Machine

/-- What one step leaves, with these bytes at PC. -/
def after {α : Type} (s : State) (bytes : List Byte) (get : State → α) : Option α :=
  match step (s.storeBytes s.pc bytes) with
  | .next t => some (get t)
  | .fault _ => none
  | .refused _ => none

/-- What one step's Invalid Opcode carries, with these bytes at PC. -/
def faulted {α : Type} (s : State) (bytes : List Byte) (get : State → α) : Option (Byte × Word × α) :=
  match step (s.storeBytes s.pc bytes) with
  | .next _ => none
  | .fault (.invalidOpcode op addr t) => some (op, addr, get t)
  | .refused _ => none

/-! The check of WellFormed: INVALID carries the byte of an empty entry (R87), so 0x40, which has an entry, is refused. -/

theorem test_wellFormed_refuses_invalid_with_an_entry : (Instr.invalid 0x40).wellFormed = false := by decide
theorem test_wellFormed_accepts_invalid_of_an_empty_entry : (Instr.invalid 0xFD).wellFormed = true := by decide
theorem test_wellFormed_accepts_an_immediate : (Instr.ld_sp_nn 0xFFFF).wellFormed = true := by decide

/-! Decoding, a word of each family written out from the formats and field codes of R83 and R85. -/

theorem test_decode_ld_r_r : decode [0b01111000] = .ok (.ld_a_b, []) := rfl
theorem test_decode_ld_r_n : decode [0b00101110, 0x99] = .ok (.ld_l_n 0x99, []) := rfl
theorem test_decode_ld_r_hl : decode [0b01100110] = .ok (.ld_h_mhl, []) := rfl
theorem test_decode_ld_hl_r : decode [0b01110101] = .ok (.ld_mhl_l, []) := rfl
theorem test_decode_ld_hl_n : decode [0b00110110, 0x5A, 0xFD] = .ok (.ld_mhl_n 0x5A, [0xFD]) := rfl
theorem test_decode_ld_a_nn : decode [0xFA, 0x34, 0x12] = .ok (.ld_a_mnn 0x1234, []) := rfl
theorem test_decode_ldh : decode [0xF2] = .ok (.ldh_a_mc, []) := rfl
theorem test_decode_ld_hl_step : decode [0x32] = .ok (.ld_mhld_a, []) := rfl
theorem test_decode_ld_rr_nn : decode [0b00110001, 0xFE, 0xFF] = .ok (.ld_sp_nn 0xFFFE, []) := rfl
theorem test_decode_push : decode [0b11110101] = .ok (.push_af, []) := rfl
theorem test_decode_pop : decode [0b11010001] = .ok (.pop_de, []) := rfl
theorem test_decode_ld_hl_spe : decode [0xF8, 0xFE] = .ok (.ld_hl_spe 0xFE, []) := rfl
theorem test_decode_alu_r : decode [0b10011010] = .ok (.sbc_a_d, []) := rfl
theorem test_decode_alu_hl : decode [0b10111110] = .ok (.cp_a_mhl, []) := rfl
theorem test_decode_alu_n : decode [0b11001110, 0x03] = .ok (.adc_a_n 0x03, []) := rfl
theorem test_decode_empty : decode [0xCB, 0x37] = .ok (.invalid 0xCB, [0x37]) := rfl
theorem test_decode_no_byte : decode [] = .error .noByte := rfl
theorem test_decode_truncated_imm8 : decode [0x06] = .error (.truncated 0x06) := rfl
theorem test_decode_truncated_imm16 : decode [0x01, 0x34] = .error (.truncated 0x01) := rfl
theorem test_decodeTableWord_first_byte_is_low : decodeTableWord 24 0x1234FA = some (.ld_a_mnn 0x1234) := by decide
theorem test_decodeTableWord_zero_above_nbits : decodeTableWord 8 0x1234FA = some (.ld_a_mnn 0x0000) := by decide
theorem test_withFetchWord_runs_it : (fetchInstr (State.reset.withFetchWord 8 0x41)).1 = .ld_b_c := by decide

/-! The opcode table: 144 entries, 112 empty (R86, R87), and the spelling, length and cycles of R95, R96, R98. -/

set_option maxRecDepth 4000 in
theorem test_table_has_144_entries : (List.range 256).countP (fun k => (opcodeTable defaultCycles (BitVec.ofNat 8 k)).isSome) = 144 := by decide
theorem test_empty_entries_are_112 : emptyEntries.length = 112 := rfl
theorem test_entry_0x86 : opcodeTable defaultCycles 0x86 = some ⟨"ADD A,(HL)", 1, 2⟩ := by decide
theorem test_entry_0xEA : opcodeTable defaultCycles 0xEA = some ⟨"LD (nn),A", 3, 4⟩ := by decide
theorem test_entry_0x36 : opcodeTable defaultCycles 0x36 = some ⟨"LD (HL),n", 2, 3⟩ := by decide
theorem test_entry_0xE2 : opcodeTable defaultCycles 0xE2 = some ⟨"LDH (C),A", 1, 2⟩ := by decide

/-! Another launch: the table given is the one that counts (D10), and a fault adds nothing (D11). -/

theorem test_other_MCYCLES : (match stepWith (fun op => op.toNat + 7) (State.reset.write8 0x0100 0x41) with
    | .next t => some t.mcycles | .fault _ => none | .refused _ => none) = some 0x48 := by decide
theorem test_fault_is_recorded : (hostRun (fun _ => 7) [.write 0x0100 0xFD, .step, .write 0x0101 0x41, .step]
    ⟨construct [], []⟩).faults = [(0xFD, 0x0100)] := by decide
theorem test_resumed_run : (hostRun (fun _ => 7) [.write 0x0100 0xFD, .step, .write 0x0101 0x41, .step]
    ⟨construct [], []⟩).state.mcycles = 7 := by decide
theorem test_get_state_pair : ((getState State.reset).pair .hl, (getState State.reset).pair .af) = (0x014D, 0x01B0) := by decide

/-! The flag register: S3 and S4 of spec/95_test_vectors.md (R28). -/

theorem test_S3_field : writeFlagField 0x50 0xA = 0xA0 := by decide
theorem test_S4_set_h : writeFlag 0x90 .h true = 0xB0 := by decide
theorem test_S4_clear_z : writeFlag 0xB0 .z false = 0x30 := by decide

/-! The trace: the first event of P1 (R250), and the bus accesses of PUSH (R60). -/

theorem test_trace_P1 : traceEvent (State.reset.storeBytes 0x0100 [0x21, 0x00, 0xC0]) = ⟨0x0100, 0x21, some "LD HL,nn", true⟩ := by decide
theorem test_trace_invalid : traceEvent (State.reset.storeBytes 0x0100 [0xFD]) = ⟨0x0100, 0xFD, none, false⟩ := by decide
theorem test_bus_push : busTrace (State.reset.storeBytes 0x0100 [0xC5]) =
    [.fetch 0x0100, .write 0xFFFD 0x00, .write 0xFFFC 0x13] := by decide

/-! One step each: the vectors of spec/95_test_vectors.md. -/

/-- V8.1 (R113): `LD A,B`. -/
theorem test_V8_1 : after ({ State.reset with b := 0x5A }) [0x78] (fun t => (t.a, t.f, t.pc, t.mcycles)) =
    some (0x5A, 0xB0, 0x0101, 1) := by decide

/-- V8.3 (R113): `LD H,L`. -/
theorem test_V8_3 : after ({ State.reset with h := 0xC0, l := 0x12 }) [0x65] (fun t => (t.h, t.f, t.pc, t.mcycles)) =
    some (0x12, 0xB0, 0x0101, 1) := by decide

/-- V8.6 (R114): `LD A,n with n at 0xFFFF`. -/
theorem test_V8_6 : after ({ State.reset with pc := 0xFFFE }) [0x3E, 0x77] (fun t => (t.a, t.f, t.pc, t.mcycles)) =
    some (0x77, 0xB0, 0x0000, 2) := by decide

/-- V8.7 (R114): `LD B,n with n at 0x0000`. -/
theorem test_V8_7 : after ({ State.reset with pc := 0xFFFF }) [0x06, 0x55] (fun t => (t.b, t.f, t.pc, t.mcycles)) =
    some (0x55, 0xB0, 0x0001, 2) := by decide

/-- V8.9 (R115): `LD H,(HL)`. -/
theorem test_V8_9 : after (({ State.reset with h := 0xC0, l := 0x00 }).write8 0xC000 0xD0) [0x66] (fun t => (t.h, t.f, t.pc, t.mcycles)) =
    some (0xD0, 0xB0, 0x0101, 2) := by decide

/-- V8.10 (R115): `LD L,(HL)`. -/
theorem test_V8_10 : after (({ State.reset with h := 0xC0, l := 0x00 }).write8 0xC000 0x34) [0x6E] (fun t => (t.l, t.f, t.pc, t.mcycles)) =
    some (0x34, 0xB0, 0x0101, 2) := by decide

/-- V8.12 (R116): `LD (HL),H`. -/
theorem test_V8_12 : after ({ State.reset with h := 0xC0, l := 0x12 }) [0x74] (fun t => (t.f, t.read8 0xC012, t.pc, t.mcycles)) =
    some (0xB0, 0xC0, 0x0101, 2) := by decide

/-- V8.13 (R116): `LD (HL),L`. -/
theorem test_V8_13 : after ({ State.reset with h := 0xC0, l := 0x12 }) [0x75] (fun t => (t.f, t.read8 0xC012, t.pc, t.mcycles)) =
    some (0xB0, 0x12, 0x0101, 2) := by decide

/-- V8.14 (R117): `LD (HL),n`. -/
theorem test_V8_14 : after ({ State.reset with h := 0xC1, l := 0x00 }) [0x36, 0x5A] (fun t => (t.f, t.read8 0xC100, t.pc, t.mcycles)) =
    some (0xB0, 0x5A, 0x0102, 3) := by decide

/-- V8.15 (R117): `LD (HL),n with HL = address of n`. -/
theorem test_V8_15 : after ({ State.reset with h := 0x01, l := 0x01 }) [0x36, 0x5A] (fun t => (t.f, t.read8 0x0101, t.pc, t.mcycles)) =
    some (0xB0, 0x5A, 0x0102, 3) := by decide

/-- V8.16 (R118): `LD A,(BC)`. -/
theorem test_V8_16 : after (({ State.reset with b := 0xC0, c := 0x00 }).write8 0xC000 0x11) [0x0A] (fun t => (t.a, t.f, t.pc, t.mcycles)) =
    some (0x11, 0xB0, 0x0101, 2) := by decide

/-- V8.17 (R119): `LD A,(DE)`. -/
theorem test_V8_17 : after (({ State.reset with d := 0xC0, e := 0x01 }).write8 0xC001 0x22) [0x1A] (fun t => (t.a, t.f, t.pc, t.mcycles)) =
    some (0x22, 0xB0, 0x0101, 2) := by decide

/-- V8.18 (R120): `LD (BC),A`. -/
theorem test_V8_18 : after ({ State.reset with b := 0xC0, c := 0x00, a := 0x33 }) [0x02] (fun t => (t.f, t.read8 0xC000, t.pc, t.mcycles)) =
    some (0xB0, 0x33, 0x0101, 2) := by decide

/-- V8.19 (R121): `LD (DE),A`. -/
theorem test_V8_19 : after ({ State.reset with d := 0xC0, e := 0x02, a := 0x44 }) [0x12] (fun t => (t.f, t.read8 0xC002, t.pc, t.mcycles)) =
    some (0xB0, 0x44, 0x0101, 2) := by decide

/-- V8.20 (R122): `LD A,(nn): little-endian, reads 0x1234 not 0x3412`. -/
theorem test_V8_20 : after (((State.reset).write8 0x1234 0xAB).write8 0x3412 0xCD) [0xFA, 0x34, 0x12] (fun t => (t.a, t.f, t.pc, t.mcycles)) =
    some (0xAB, 0xB0, 0x0103, 4) := by decide

/-- V8.21 (R123): `LD (nn),A`. -/
theorem test_V8_21 : after ({ State.reset with a := 0x5C }) [0xEA, 0x00, 0xC0] (fun t => (t.f, t.read8 0xC000, t.pc, t.mcycles)) =
    some (0xB0, 0x5C, 0x0103, 4) := by decide

/-- V8.22 (R124): `LDH A,(C)`. -/
theorem test_V8_22 : after (({ State.reset with c := 0x80 }).write8 0xFF80 0x3C) [0xF2] (fun t => (t.a, t.f, t.pc, t.mcycles)) =
    some (0x3C, 0xB0, 0x0101, 2) := by decide

/-- V8.24 (R125): `LDH (C),A`. -/
theorem test_V8_24 : after ({ State.reset with c := 0xFF, a := 0x66 }) [0xE2] (fun t => (t.f, t.read8 0xFFFF, t.pc, t.mcycles)) =
    some (0xB0, 0x66, 0x0101, 2) := by decide

/-- V8.25 (R126): `LDH A,(n)`. -/
theorem test_V8_25 : after ((State.reset).write8 0xFFFF 0x12) [0xF0, 0xFF] (fun t => (t.a, t.f, t.pc, t.mcycles)) =
    some (0x12, 0xB0, 0x0102, 3) := by decide

/-- V8.27 (R127): `LDH (n),A: address FF01, not 01FF`. -/
theorem test_V8_27 : after ({ State.reset with a := 0x9A }) [0xE0, 0x01] (fun t => (t.f, t.read8 0xFF01, t.pc, t.mcycles)) =
    some (0xB0, 0x9A, 0x0102, 3) := by decide

/-- V8.28 (R128): `LD A,(HL+) (source §8)`. -/
theorem test_V8_28 : after (({ State.reset with h := 0xFF, l := 0xFF }).write8 0xFFFF 0x5E) [0x2A] (fun t => (t.a, t.h, t.l, t.f, t.pc, t.mcycles)) =
    some (0x5E, 0x00, 0x00, 0xB0, 0x0101, 2) := by decide

/-- V8.29 (R129): `LD A,(HL-) (source §8)`. -/
theorem test_V8_29 : after (({ State.reset with h := 0x00, l := 0x00 }).write8 0x0000 0x6F) [0x3A] (fun t => (t.a, t.h, t.l, t.f, t.pc, t.mcycles)) =
    some (0x6F, 0xFF, 0xFF, 0xB0, 0x0101, 2) := by decide

/-- V8.30 (R130): `LD (HL+),A`. -/
theorem test_V8_30 : after ({ State.reset with h := 0x00, l := 0xFF, a := 0x21 }) [0x22] (fun t => (t.h, t.l, t.f, t.read8 0x00FF, t.pc, t.mcycles)) =
    some (0x01, 0x00, 0xB0, 0x21, 0x0101, 2) := by decide

/-- V8.31 (R131): `LD (HL-),A`. -/
theorem test_V8_31 : after ({ State.reset with h := 0xC1, l := 0x00, a := 0x31 }) [0x32] (fun t => (t.h, t.l, t.f, t.read8 0xC100, t.pc, t.mcycles)) =
    some (0xC0, 0xFF, 0xB0, 0x31, 0x0101, 2) := by decide

/-- V8.33 (R128): `LD A,(HL+) reading its own opcode`. -/
theorem test_V8_33 : after ({ State.reset with h := 0x01, l := 0x00 }) [0x2A] (fun t => (t.a, t.l, t.f, t.pc, t.mcycles)) =
    some (0x2A, 0x01, 0xB0, 0x0101, 2) := by decide

/-- V16.1 (R161): `LD BC,nn`. -/
theorem test_V16_1 : after (State.reset) [0x01, 0x34, 0x12] (fun t => (t.b, t.c, t.f, t.pc, t.mcycles)) =
    some (0x12, 0x34, 0xB0, 0x0103, 3) := by decide

/-- V16.3 (R161): `LD HL,nn`. -/
theorem test_V16_3 : after (State.reset) [0x21, 0xFF, 0xFF] (fun t => (t.h, t.l, t.f, t.pc, t.mcycles)) =
    some (0xFF, 0xFF, 0xB0, 0x0103, 3) := by decide

/-- V16.4 (R161): `LD SP,nn`. -/
theorem test_V16_4 : after (State.reset) [0x31, 0x00, 0x00] (fun t => (t.sp, t.f, t.pc, t.mcycles)) =
    some (0x0000, 0xB0, 0x0103, 3) := by decide

/-- V16.5 (R163): `PUSH BC`. -/
theorem test_V16_5 : after ({ State.reset with b := 0x12, c := 0x34 }) [0xC5] (fun t => (t.sp, t.f, t.read8 0xFFFC, t.read8 0xFFFD, t.pc, t.mcycles)) =
    some (0xFFFC, 0xB0, 0x34, 0x12, 0x0101, 4) := by decide

/-- V16.7 (R163): `PUSH DE`. -/
theorem test_V16_7 : after ({ State.reset with sp := 0x0000, d := 0xBE, e := 0xEF }) [0xD5] (fun t => (t.sp, t.f, t.read8 0xFFFE, t.read8 0xFFFF, t.pc, t.mcycles)) =
    some (0xFFFE, 0xB0, 0xEF, 0xBE, 0x0101, 4) := by decide

/-- V16.8 (R163): `PUSH HL`. -/
theorem test_V16_8 : after ({ State.reset with sp := 0x0001, h := 0xCA, l := 0xFE }) [0xE5] (fun t => (t.sp, t.f, t.read8 0x0000, t.read8 0xFFFF, t.pc, t.mcycles)) =
    some (0xFFFF, 0xB0, 0xCA, 0xFE, 0x0101, 4) := by decide

/-- V16.10 (R165): `POP DE`. -/
theorem test_V16_10 : after ((({ State.reset with sp := 0xC000 }).write8 0xC000 0x78).write8 0xC001 0x56) [0xD1] (fun t => (t.d, t.e, t.sp, t.f, t.pc, t.mcycles)) =
    some (0x56, 0x78, 0xC002, 0xB0, 0x0101, 3) := by decide

/-- V16.11 (R165): `POP HL`. -/
theorem test_V16_11 : after ((({ State.reset with sp := 0xFFFF }).write8 0x0000 0xAB).write8 0xFFFF 0xCD) [0xE1] (fun t => (t.h, t.l, t.sp, t.f, t.pc, t.mcycles)) =
    some (0xAB, 0xCD, 0x0001, 0xB0, 0x0101, 3) := by decide

/-- V16.12 (R166): `POP AF`. -/
theorem test_V16_12 : after ((({ State.reset with sp := 0xC000 }).write8 0xC000 0xFF).write8 0xC001 0x12) [0xF1] (fun t => (t.a, t.sp, t.f, t.pc, t.mcycles)) =
    some (0x12, 0xC002, 0xF0, 0x0101, 3) := by decide

/-- V16.15 (R168): `LD SP,HL`. -/
theorem test_V16_15 : after ({ State.reset with h := 0xD0, l := 0x00 }) [0xF9] (fun t => (t.sp, t.f, t.pc, t.mcycles)) =
    some (0xD000, 0xB0, 0x0101, 2) := by decide

/-- V16.18 (R170): `LD HL,SP+e`. -/
theorem test_V16_18 : after ({ State.reset with sp := 0xFFFF }) [0xF8, 0x01] (fun t => (t.h, t.l, t.f, t.pc, t.mcycles)) =
    some (0x00, 0x00, 0x30, 0x0102, 3) := by decide

/-- V16.20 (R170): `LD HL,SP+e`. -/
theorem test_V16_20 : after ({ State.reset with sp := 0x0000 }) [0xF8, 0x80] (fun t => (t.h, t.l, t.f, t.pc, t.mcycles)) =
    some (0xFF, 0x80, 0x00, 0x0102, 3) := by decide

/-- VA.1 (R195): `ADD A,B`. -/
theorem test_VA_1 : after ({ State.reset with a := 0x3A, b := 0xC6 }) [0x80] (fun t => (t.a, t.f, t.pc, t.mcycles)) =
    some (0x00, 0xB0, 0x0101, 1) := by decide

/-- VA.2 (R195): `ADD A,A`. -/
theorem test_VA_2 : after ({ State.reset with a := 0x80 }) [0x87] (fun t => (t.a, t.f, t.pc, t.mcycles)) =
    some (0x00, 0x90, 0x0101, 1) := by decide

/-- VA.4 (R196): `ADD A,(HL)`. -/
theorem test_VA_4 : after (({ State.reset with a := 0x3C, h := 0xC0, l := 0x00 }).write8 0xC000 0x12) [0x86] (fun t => (t.a, t.f, t.pc, t.mcycles)) =
    some (0x4E, 0x00, 0x0101, 2) := by decide

/-- VA.5 (R197): `ADD A,n (source §8)`. -/
theorem test_VA_5 : after ({ State.reset with a := 0x0F }) [0xC6, 0x01] (fun t => (t.a, t.f, t.pc, t.mcycles)) =
    some (0x10, 0x20, 0x0102, 2) := by decide

/-- VA.9 (R198): `ADC A,E`. -/
theorem test_VA_9 : after ({ State.reset with a := 0xE1, e := 0x0F, f := 0x10 }) [0x8B] (fun t => (t.a, t.f, t.pc, t.mcycles)) =
    some (0xF1, 0x20, 0x0101, 1) := by decide

/-- VA.10 (R199): `ADC A,(HL)`. -/
theorem test_VA_10 : after (({ State.reset with a := 0xE1, h := 0xC0, l := 0x00, f := 0x10 }).write8 0xC000 0x1E) [0x8E] (fun t => (t.a, t.f, t.pc, t.mcycles)) =
    some (0x00, 0xB0, 0x0101, 2) := by decide

/-- VA.16 (R200): `ADC A,n: the carry-in alone makes H`. -/
theorem test_VA_16 : after ({ State.reset with a := 0x0F, f := 0x10 }) [0xCE, 0x00] (fun t => (t.a, t.f, t.pc, t.mcycles)) =
    some (0x10, 0x20, 0x0102, 2) := by decide

/-- VA.18 (R201): `SUB A,B`. -/
theorem test_VA_18 : after ({ State.reset with a := 0x00, b := 0x01 }) [0x90] (fun t => (t.a, t.f, t.pc, t.mcycles)) =
    some (0xFF, 0x70, 0x0101, 1) := by decide

/-- VA.20 (R202): `SUB A,(HL)`. -/
theorem test_VA_20 : after (({ State.reset with a := 0x3E, h := 0xC0, l := 0x00 }).write8 0xC000 0x3E) [0x96] (fun t => (t.a, t.f, t.pc, t.mcycles)) =
    some (0x00, 0xC0, 0x0101, 2) := by decide

/-- VA.22 (R203): `SUB A,n`. -/
theorem test_VA_22 : after ({ State.reset with a := 0x3E }) [0xD6, 0x40] (fun t => (t.a, t.f, t.pc, t.mcycles)) =
    some (0xFE, 0x50, 0x0102, 2) := by decide

/-- VA.25 (R204): `SBC A,A`. -/
theorem test_VA_25 : after ({ State.reset with a := 0x55, f := 0x10 }) [0x9F] (fun t => (t.a, t.f, t.pc, t.mcycles)) =
    some (0xFF, 0x70, 0x0101, 1) := by decide

/-- VA.27 (R206): `SBC A,n`. -/
theorem test_VA_27 : after ({ State.reset with a := 0x00, f := 0x10 }) [0xDE, 0xFF] (fun t => (t.f, t.pc, t.mcycles)) =
    some (0xF0, 0x0102, 2) := by decide

/-- VA.29 (R205): `SBC A,(HL)`. -/
theorem test_VA_29 : after (({ State.reset with a := 0x3B, h := 0xC0, l := 0x00, f := 0x00 }).write8 0xC000 0x3B) [0x9E] (fun t => (t.a, t.f, t.pc, t.mcycles)) =
    some (0x00, 0xC0, 0x0101, 2) := by decide

/-- VA.30 (R209): `CP A,n`. -/
theorem test_VA_30 : after ({ State.reset with a := 0x3C }) [0xFE, 0x2F] (fun t => (t.f, t.pc, t.mcycles)) =
    some (0x60, 0x0102, 2) := by decide

/-- VA.33 (R207): `CP A,A`. -/
theorem test_VA_33 : after ({ State.reset with a := 0x42 }) [0xBF] (fun t => (t.f, t.pc, t.mcycles)) =
    some (0xC0, 0x0101, 1) := by decide

/-- VA.35 (R208): `CP A,(HL)`. -/
theorem test_VA_35 : after (({ State.reset with a := 0x3C, h := 0xC0, l := 0x00 }).write8 0xC000 0x3C) [0xBE] (fun t => (t.f, t.pc, t.mcycles)) =
    some (0xC0, 0x0101, 2) := by decide

/-- VA.36 (R209): `CP A,n ignores the carry-in`. -/
theorem test_VA_36 : after ({ State.reset with a := 0x3C, f := 0x10 }) [0xFE, 0x3B] (fun t => (t.f, t.pc, t.mcycles)) =
    some (0x40, 0x0102, 2) := by decide

/-- VD.4 (R88): `0xCB prefix; 0x37 not fetched`. -/
theorem test_VD_4 : faulted (State.reset) [0xCB, 0x37] (fun t => (t.f, t.pc, t.mcycles)) =
    some (0xCB, 0x0100, 0xB0, 0x0101, 0) := by decide

/-- VD.13 (R232): `0xFD at 0xFFFF`. -/
theorem test_VD_13 : faulted ({ State.reset with pc := 0xFFFF }) [0xFD] (fun t => (t.f, t.pc, t.mcycles)) =
    some (0xFD, 0xFFFF, 0xB0, 0x0000, 0) := by decide

/-- VD.15 (R31): `LD A,(nn) straddling 0xFFFF`. -/
theorem test_VD_15 : after (({ State.reset with pc := 0xFFFE }).write8 0xC000 0x42) [0xFA, 0x00, 0xC0] (fun t => (t.a, t.f, t.pc, t.mcycles)) =
    some (0x42, 0xB0, 0x0001, 4) := by decide

/-! A witness for each statement that has hypotheses: concrete states and operands that meet them together, one for each clause, at the
ends of its range where it has one. -/

/-- `State.reset` with bytes at PC. -/
def at0100 (bytes : List Byte) : State := State.reset.storeBytes 0x0100 bytes

/-- A step of `s` succeeds, in the launch with the default table. -/
def Steps (s : State) : Prop := ∃ t, stepWith defaultCycles s = .next t

theorem witness_ConstructionMeetsInvariant : Memory.wf [(0x0000, 0x01#8), (0xFFFF, 0xFF#8)] := by decide
theorem witness_EveryStepKeepsInvariant_next : Inv (at0100 [0x41]) ∧ Steps (at0100 [0x41]) := ⟨⟨by decide, by decide⟩, _, rfl⟩
theorem witness_EveryStepKeepsInvariant_fault :
    Inv State.reset ∧ ∃ t, stepWith defaultCycles State.reset = .fault (.invalidOpcode 0x00 0x0100 t) := ⟨⟨by decide, by decide⟩, _, rfl⟩
theorem witness_EveryStepKeepsInvariant_step : Inv (at0100 [0x41]) ∧ ∃ t, step (at0100 [0x41]) = .next t :=
  ⟨⟨by decide, by decide⟩, _, rfl⟩
theorem witness_FlagLowNibbleZeroInReachableStates :
    Reachable defaultCycles (hostRun defaultCycles [.write 0x0100 0x41, .step] ⟨construct [], []⟩).state :=
  ⟨[], [.write 0x0100 0x41, .step], by decide, rfl⟩
theorem witness_PairsAndHalvesAreOneStorage : Pair.sp ≠ Pair.af := by decide
theorem witness_FlagFieldRoundTrip : 0 < 4 ∧ 3 < 4 ∧ (0 : Nat) ≠ Flag.c.bit ∧ (5 : Nat) ≠ Flag.c.bit := by decide
theorem witness_ReadAfterWrite : (0x0000#16 : Word) ≠ 0xFFFF#16 := by decide
theorem witness_MemoryHasNoSideEffects : (at0100 [0x41]).mem.wf := by decide
theorem witness_ImmediatesAreLittleEndian :
    (fetchInstr (at0100 [0xFA, 0x34, 0x12])).1.form = .ldANN 0x1234 ∧
    (fetchInstr (at0100 [0xEA, 0xFF, 0x00])).1.form = .ldNNA 0x00FF ∧
    (fetchInstr (at0100 [0x31, 0x00, 0xFF])).1.form = .ldRRNN .sp 0xFF00 := by decide
theorem witness_StepMemoryIsItsBusWrites_next : Steps (at0100 [0xC5]) := ⟨_, rfl⟩
theorem witness_StepMemoryIsItsBusWrites_no_write :
    Steps (at0100 [0x41]) ∧ busTrace (at0100 [0x41]) = [.fetch 0x0100] := ⟨⟨_, rfl⟩, by decide⟩
theorem witness_StepMemoryIsItsBusWrites_fault : ∃ r, stepWith defaultCycles (at0100 [0xFD]) = .fault r := ⟨_, rfl⟩
theorem witness_StoredByteIsFetchedNext :
    let s := { at0100 [0x70] with h := 0x01, l := 0x01 }
    (fetchInstr s).1.form = .ldHLR .b ∧ s.pair .hl = s.pc + 1 ∧ Steps s ∧ BusAccess.write 0x0101 0x00 ∈ busTrace s :=
  ⟨by decide, by decide, ⟨_, rfl⟩, by decide⟩
theorem witness_StoredByteIsFetchedNext_push :
    let s := { at0100 [0xC5] with sp := 0x0103 }
    Steps s ∧ BusAccess.write 0x0101 0x13 ∈ busTrace s := ⟨⟨_, rfl⟩, by decide⟩
theorem witness_StoredByteIsFetchedNext_no_write : Steps (at0100 [0x41]) ∧ busTrace (at0100 [0x41]) = [.fetch 0x0100] :=
  ⟨⟨_, rfl⟩, by decide⟩
theorem witness_DecodeOfEncode : (Instr.ld_a_mnn 0xFFFF).wellFormed = true ∧ (Instr.invalid 0xFF).wellFormed = true := by decide
theorem witness_EncodeOfDecode : decode [0xFE, 0xFF, 0x00] = .ok (.cp_a_n 0xFF, [0x00]) := rfl
theorem witness_EmptyEntriesAreTheListedBytes : 0x00#8 ∈ emptyEntries ∧ 0xFF#8 ∈ emptyEntries ∧ 0xFE#8 ∉ emptyEntries := by decide
theorem witness_OpcodeTableLengthsAndCycles :
    opcodeTable defaultCycles 0xFA = some ⟨"LD A,(nn)", 3, 4⟩ ∧ opcodeTable defaultCycles 0x01 = some ⟨"LD BC,nn", 3, 3⟩ ∧
    opcodeTable defaultCycles 0x36 = some ⟨"LD (HL),n", 2, 3⟩ ∧ opcodeTable defaultCycles 0xBF = some ⟨"CP A,A", 1, 1⟩ ∧
    opcodeTable defaultCycles 0x70 = some ⟨"LD (HL),B", 1, 2⟩ ∧ opcodeTable defaultCycles 0x7E = some ⟨"LD A,(HL)", 1, 2⟩ ∧
    opcodeTable defaultCycles 0xFE = some ⟨"CP A,n", 2, 2⟩ ∧ opcodeTable defaultCycles 0xF9 = some ⟨"LD SP,HL", 1, 2⟩ := by decide
theorem witness_EveryFormIsOneInstruction : Instr.ld_b_c.form = .ldRR .b .c := rfl
theorem witness_StepRunsTheDecodedInstruction :
    decode ((at0100 [0x06, 0x55]).bytesFrom 0x0100 2) = .ok (.ld_b_n 0x55, []) := rfl
theorem witness_StepRunsTheDecodedInstruction_at_the_wrap :
    let s := { (State.reset.write8 0xFFFF 0x06).write8 0x0000 0x55 with pc := 0xFFFF }
    decode (s.bytesFrom s.pc 2) = .ok (.ld_b_n 0x55, []) := rfl
theorem witness_StepRunsTheDecodedInstruction_fault :
    decode ((at0100 [0xFD]).bytesFrom 0x0100 1) = .ok (.invalid 0xFD, []) ∧ ∃ r, exec (.invalid 0xFD) (at0100 [0xFD]) = .fault r :=
  ⟨rfl, _, rfl⟩
theorem witness_InvalidOpcodeCarriesByteAndAddress : State.reset.read8 State.reset.pc ∈ emptyEntries := by decide
theorem witness_StateAfterInvalidOpcode :
    ∃ t, stepWith defaultCycles ({ State.reset with pc := 0xFFFF }.write8 0xFFFF 0xFD) = .fault (.invalidOpcode 0xFD 0xFFFF t) := ⟨_, rfl⟩
theorem witness_PcAdvancesByTheLength : Steps (at0100 [0x01, 0x34, 0x12]) := ⟨_, rfl⟩
theorem witness_RunAddsTheCyclesOfItsOpcodes : ∃ t, (launch defaultCycles []).run 2 (at0100 [0x41, 0xC5]) = .next t := ⟨_, rfl⟩
theorem witness_FlagsChangeOnlyByAluSpOffsetAndPopAf :
    writesFlags Instr.pop_bc.form = false ∧ ∃ t, exec .pop_bc State.reset = .next t := ⟨rfl, _, rfl⟩
theorem witness_FlagsAreReadOnlyByAdcSbcAndPushAf :
    (readsFlags Instr.add_a_b.form = false ∧ writesFlags Instr.add_a_b.form = true ∧ ∃ t, exec .add_a_b State.reset = .next t) ∧
    (readsFlags Instr.push_bc.form = false ∧ writesFlags Instr.push_bc.form = false ∧ ∃ t, exec .push_bc State.reset = .next t) :=
  ⟨⟨rfl, rfl, _, rfl⟩, rfl, rfl, _, rfl⟩
theorem witness_CounterIsNotObservable : (∃ t, exec .push_af State.reset = .next t) ∧ Steps (at0100 [0xF5]) := ⟨⟨_, rfl⟩, _, rfl⟩
theorem witness_PcIsReadByFetchOnly : ∃ t, exec (.ld_a_mnn 0x1234) State.reset = .next t := ⟨_, rfl⟩
theorem witness_SpChangesOnlyByItsWriters :
    writesSP (Instr.ld_hl_nn 0xFFFF).form = false ∧ ∃ t, exec (.ld_hl_nn 0xFFFF) State.reset = .next t := ⟨rfl, _, rfl⟩

theorem witness_LoadRegisterFromRegister : Instr.ld_h_h.form = .ldRR .h .h ∧ Instr.ld_a_b.form = .ldRR .a .b := ⟨rfl, rfl⟩
theorem witness_LoadRegisterFromRegister_step : (fetchInstr (at0100 [0x78])).1 = .ld_a_b := by decide
theorem witness_LoadRegisterImmediate_step : (fetchInstr (at0100 [0x2E, 0xFF])).1 = .ld_l_n 0xFF := by decide
theorem witness_LoadRegisterImmediate : (Instr.ld_l_n 0xFF).form = .ldRN .l 0xFF := rfl
theorem witness_LoadRegisterFromHL : Instr.ld_h_mhl.form = .ldRHL .h := rfl
theorem witness_StoreAtHL :
    (Instr.ld_mhl_h.form = .ldHLR .h ∧ (0x01 : Byte) = State.reset.reg .h ∧ 1 = 1) ∧
    ((Instr.ld_mhl_n 0xFF).form = .ldHLN 0xFF ∧ 2 = 2) := ⟨⟨rfl, rfl, rfl⟩, rfl, rfl⟩
theorem witness_LoadAFromAddress :
    (Instr.ld_a_mbc.form = .ldABC ∧ (0x0013 : Word) = State.reset.pair .bc) ∧
    (Instr.ld_a_mde.form = .ldADE ∧ (0x00D8 : Word) = State.reset.pair .de) ∧
    (Instr.ld_a_mnn 0xFFFF).form = .ldANN 0xFFFF := ⟨⟨rfl, rfl⟩, ⟨rfl, rfl⟩, rfl⟩
theorem witness_StoreAAtAddress :
    (Instr.ld_mbc_a.form = .ldBCA ∧ (0x0013 : Word) = State.reset.pair .bc) ∧
    (Instr.ld_mde_a.form = .ldDEA ∧ (0x00D8 : Word) = State.reset.pair .de) ∧
    (Instr.ld_mnn_a 0x0000).form = .ldNNA 0x0000 := ⟨⟨rfl, rfl⟩, ⟨rfl, rfl⟩, rfl⟩
theorem witness_LoadAFromHighRam :
    (Instr.ldh_a_mc.form = .ldhAC ∧ (0x13 : Byte) = State.reset.c) ∧ (Instr.ldh_a_mn 0xFF).form = .ldhAN 0xFF := ⟨⟨rfl, rfl⟩, rfl⟩
theorem witness_StoreAInHighRam :
    (Instr.ldh_mc_a.form = .ldhCA ∧ (0x13 : Byte) = State.reset.c) ∧ (Instr.ldh_mn_a 0x00).form = .ldhNA 0x00 := ⟨⟨rfl, rfl⟩, rfl⟩
theorem witness_LoadAThenMoveHL : Instr.ld_a_mhli.form = .ldAHLI ∧ Instr.ld_a_mhld.form = .ldAHLD := ⟨rfl, rfl⟩
theorem witness_StoreAThenMoveHL : Instr.ld_mhli_a.form = .ldHLIA ∧ Instr.ld_mhld_a.form = .ldHLDA := ⟨rfl, rfl⟩
theorem witness_LoadPairImmediate :
    (Instr.ld_sp_nn 0xFFFF).form = .ldRRNN .sp 0xFFFF ∧ (Instr.ld_bc_nn 0x0000).form = .ldRRNN .bc 0x0000 := ⟨rfl, rfl⟩
theorem witness_PushStoresThePair : Instr.push_hl.form = .push .hl ∧ Instr.push_af.form = .push .af := ⟨rfl, rfl⟩
theorem witness_PopLoadsThePair : Instr.pop_hl.form = .pop .hl ∧ RegQQ.hl ≠ RegQQ.af := ⟨rfl, by decide⟩
theorem witness_PopAfMasksF : Instr.pop_af.form = .pop .af := rfl
theorem witness_PushThenPopRestores :
    (Instr.push_bc.form = .push .bc ∧ Instr.pop_de.form = .pop .de ∧ RegQQ.de ≠ RegQQ.af) ∧
    (Instr.push_af.form = .push .af ∧ Instr.pop_af.form = .pop .af ∧ State.reset.f &&& 0x0F#8 = 0#8) :=
  ⟨⟨rfl, rfl, by decide⟩, rfl, rfl, by decide⟩
theorem witness_LoadSpFromHL : Instr.ld_sp_hl.form = .ldSPHL := rfl
theorem witness_LoadHLFromSpPlusOffset : (Instr.ld_hl_spe 0x80).form = .ldHLSPE 0x80 ∧ (Instr.ld_hl_spe 0x7F).form = .ldHLSPE 0x7F := ⟨rfl, rfl⟩

/-- The three forms of an ALU operation: register, `(HL)`, immediate. -/
theorem witness_AddResultAndFlags :
    AluOperand .add .add_a_b State.reset 0x00 1 ∧ AluOperand .add .add_a_mhl State.reset 0x00 1 ∧
    AluOperand .add (.add_a_n 0xFF) State.reset 0xFF 2 :=
  ⟨.inl ⟨.b, rfl, rfl, rfl⟩, .inr (.inl ⟨rfl, rfl, rfl⟩), .inr (.inr ⟨rfl, rfl⟩)⟩
theorem witness_AdcResultAndFlags :
    AluOperand .adc .adc_a_b State.reset 0x00 1 ∧ AluOperand .adc .adc_a_mhl State.reset 0x00 1 ∧
    AluOperand .adc (.adc_a_n 0xFF) State.reset 0xFF 2 :=
  ⟨.inl ⟨.b, rfl, rfl, rfl⟩, .inr (.inl ⟨rfl, rfl, rfl⟩), .inr (.inr ⟨rfl, rfl⟩)⟩
theorem witness_SubResultAndFlags :
    AluOperand .sub .sub_a_b State.reset 0x00 1 ∧ AluOperand .sub .sub_a_mhl State.reset 0x00 1 ∧
    AluOperand .sub (.sub_a_n 0xFF) State.reset 0xFF 2 :=
  ⟨.inl ⟨.b, rfl, rfl, rfl⟩, .inr (.inl ⟨rfl, rfl, rfl⟩), .inr (.inr ⟨rfl, rfl⟩)⟩
theorem witness_SbcResultAndFlags :
    AluOperand .sbc .sbc_a_b State.reset 0x00 1 ∧ AluOperand .sbc .sbc_a_mhl State.reset 0x00 1 ∧
    AluOperand .sbc (.sbc_a_n 0xFF) State.reset 0xFF 2 :=
  ⟨.inl ⟨.b, rfl, rfl, rfl⟩, .inr (.inl ⟨rfl, rfl, rfl⟩), .inr (.inr ⟨rfl, rfl⟩)⟩
theorem witness_CpFlagsOnly :
    AluOperand .cp .cp_a_b State.reset 0x00 1 ∧ AluOperand .cp .cp_a_mhl State.reset 0x00 1 ∧
    AluOperand .cp (.cp_a_n 0xFF) State.reset 0xFF 2 :=
  ⟨.inl ⟨.b, rfl, rfl, rfl⟩, .inr (.inl ⟨rfl, rfl, rfl⟩), .inr (.inr ⟨rfl, rfl⟩)⟩
theorem witness_AluZeroAndSubtractFlags :
    AluOperand .cp (.cp_a_n 0x01) State.reset 0x01 2 ∧ AluOperand .sub .sub_a_a State.reset 0x01 1 ∧ AluOp.sub ≠ AluOp.cp :=
  ⟨.inr (.inr ⟨rfl, rfl⟩), .inl ⟨.a, rfl, rfl, rfl⟩, by decide⟩
theorem witness_CpIsSubWithoutTheStore :
    let s := { State.reset with f := 0x00 }
    (AluOperand .sub .sub_a_b s 0x00 1 ∧ AluOperand .cp (.cp_a_n 0x00) s 0x00 2) ∧
    (AluOperand .add (.add_a_n 0x00) s 0x00 2 ∧ AluOperand .adc .adc_a_b s 0x00 1 ∧ s.flag .c = false) ∧
    (AluOperand .sub .sub_a_b s 0x00 1 ∧ AluOperand .sbc (.sbc_a_n 0x00) s 0x00 2 ∧ s.flag .c = false) :=
  ⟨⟨.inl ⟨.b, rfl, rfl, rfl⟩, .inr (.inr ⟨rfl, rfl⟩)⟩,
    ⟨.inr (.inr ⟨rfl, rfl⟩), .inl ⟨.b, rfl, rfl, rfl⟩, rfl⟩,
    .inl ⟨.b, rfl, rfl, rfl⟩, .inr (.inr ⟨rfl, rfl⟩), rfl⟩
theorem witness_GetStateGivesRegistersAndPairViews : getState State.reset = getState (at0100 [0x41]) := by decide
theorem witness_FaultsStayRecordedInARun : (at0100 [0xFD]).read8 0x0100 ∈ emptyEntries ∧ (at0100 [0x41]).read8 0x0100 ∉ emptyEntries := by decide

end Sys2Proof.Tests
end

-- Proofs, family 10_state: the rules about the state.
section
/-! What each instruction's effect keeps, writes and reads of F, SP, PC and the counter: one rule per operation of the state, then
the effect by its form. -/

namespace Sys2Proof.Machine

/-! ### The invariant, operation by operation (R26, R52) -/

section Invariant
variable {s t : State}

/-- The invariant speaks of memory and F only. -/
theorem Inv.of_same (h : Inv s) (hm : t.mem = s.mem) (hf : t.f = s.f) : Inv t := by
  obtain ⟨hwf, hlow⟩ := h
  exact ⟨hm ▸ hwf, hf ▸ hlow⟩

theorem Inv.setReg (h : Inv s) (r : Reg8) (v : Byte) : Inv (s.setReg r v) := h.of_same (by simp) (by simp)

theorem Inv.setSP (h : Inv s) (v : Word) : Inv (s.setSP v) := h.of_same rfl rfl

theorem Inv.advance (h : Inv s) (fm : Form) : Inv (s.advance fm) := h.of_same rfl rfl

theorem Inv.addCycles (h : Inv s) (n : Nat) : Inv (s.addCycles n) := h.of_same rfl rfl

theorem Inv.afterInvalidOpcode (h : Inv s) : Inv s.afterInvalidOpcode := h.of_same rfl rfl

theorem Inv.write8 (h : Inv s) (addr : Word) (v : Byte) : Inv (s.write8 addr v) := by
  obtain ⟨hwf, hlow⟩ := h
  exact ⟨State.write8_wf s addr v hwf, hlow⟩

theorem Inv.push16 (h : Inv s) (v : Word) : Inv (s.push16 v) := by
  obtain ⟨hwf, hlow⟩ := h
  exact ⟨State.push16_wf s v hwf, hlow⟩

theorem Inv.setFlags (h : Inv s) (fl : Flags) : Inv (s.setFlags fl) := by
  obtain ⟨hwf, -⟩ := h
  exact ⟨hwf, by simp⟩

theorem Inv.setPair (h : Inv s) (p : Pair) (v : Word) : Inv (s.setPair p v) := by
  obtain ⟨hwf, hlow⟩ := h
  exact ⟨by simpa using hwf, State.setPair_low s p v hlow⟩

theorem Inv.alu (h : Inv s) (op : AluOp) (b : Byte) : Inv (s.alu op b) := by
  cases op with
  | add | adc | sub | sbc => exact (h.setReg _ _).setFlags _
  | cp => exact h.setFlags _

/-- Every instruction's effect is built from operations that keep the invariant. -/
theorem Inv.afterEffect (h : Inv s) (fm : Form) : Inv (effect fm s) := by
  cases fm with
  | ldRR | ldRN | ldRHL | ldABC | ldADE | ldANN | ldhAC | ldhAN => exact h.setReg _ _
  | ldHLR | ldHLN | ldBCA | ldDEA | ldNNA | ldhCA | ldhNA => exact h.write8 _ _
  | ldAHLI | ldAHLD => exact (h.setReg _ _).setPair _ _
  | ldHLIA | ldHLDA => exact (h.write8 _ _).setPair _ _
  | ldRRNN => exact h.setPair _ _
  | push => exact h.push16 _
  | pop => exact (h.setSP _).setPair _ _
  | ldSPHL => exact h.setSP _
  | ldHLSPE => exact (h.setPair _ _).setFlags _
  | aluR | aluHL | aluN => exact h.alu _ _
  | invalid => exact h

theorem Inv.afterExec {i : Instr} (h : Inv s) (hs : exec i s = .next t) : Inv t := by
  obtain ⟨-, rfl⟩ := (exec_next i s t).1 hs
  exact (h.afterEffect _).advance _

theorem Inv.afterStep {mc : CycleTable} (h : Inv s) (hs : stepWith mc s = .next t) : Inv t := by
  obtain ⟨u, hu, rfl⟩ := (stepWith_next mc s t).1 hs
  exact (h.afterExec hu).addCycles _

/-- The state an Invalid Opcode carries differs from the one before in PC only (R232). -/
theorem Inv.afterFault {mc : CycleTable} {op : Byte} {addr : Word} (h : Inv s)
    (hs : stepWith mc s = .fault (.invalidOpcode op addr t)) : Inv t := by
  rw [stepWith_fault, exec_fault] at hs
  obtain ⟨_, -, hr⟩ := hs
  cases hr
  exact h.afterInvalidOpcode

end Invariant

/-- F after construction (R35). -/
theorem construct_f (mem0 : Memory) : (construct mem0).f = 0xB0#8 := rfl

/-- The register values after construction do not depend on memory (R35, R260). -/
theorem construct_pair (mem0 : Memory) (p : Pair) : (construct mem0).pair p = State.reset.pair p := by
  cases p <;> rfl

theorem construct_inv {mem0 : Memory} (h : mem0.wf) : Inv (construct mem0) := by
  refine ⟨h, ?_⟩
  rw [construct_f]
  decide

/-- Whatever a host does next, the invariant stays, a recorded fault included. -/
theorem Inv.afterMove {mc : CycleTable} {o : Observation} (h : Inv o.state) (mv : HostMove) :
    Inv (hostMove mc o mv).state := by
  cases mv with
  | write addr v => exact h.write8 addr v
  | step =>
    simp only [hostMove]
    split
    · exact h.afterStep ‹_›
    · exact h.afterFault ‹_›
    · exact h

theorem Inv.afterRun {mc : CycleTable} (moves : List HostMove) {o : Observation} (h : Inv o.state) :
    Inv (hostRun mc moves o).state := by
  induction moves generalizing o with
  | nil => exact h
  | cons mv rest ih => exact ih (h.afterMove mv)

/-- Every reachable state meets the invariant. -/
theorem Reachable.inv {mc : CycleTable} {s : State} (h : Reachable mc s) : Inv s := by
  obtain ⟨mem0, moves, hwf, hrun⟩ := h
  have hinv : Inv (hostRun mc moves ⟨construct mem0, []⟩).state := (construct_inv hwf).afterRun moves
  rwa [hrun] at hinv

/-! ### Who writes F and SP (R27, R29) -/

theorem pairDD_ne_af (p : RegDD) : p.pair ≠ .af := by cases p <;> decide

theorem pairQQ_ne_af {p : RegQQ} (h : p ≠ .af) : p.pair ≠ .af := by
  cases p with
  | af => exact absurd rfl h
  | bc | de | hl => decide

/-- An effect that is not listed as a writer of F leaves F alone (R27). -/
theorem effect_f {fm : Form} (s : State) (h : writesFlags fm = false) : (effect fm s).f = s.f := by
  cases fm with
  | ldRR | ldRN | ldRHL | ldABC | ldADE | ldANN | ldhAC | ldhAN => exact State.setReg_f _ _ _
  | ldHLR | ldHLN | ldBCA | ldDEA | ldNNA | ldhCA | ldhNA | ldAHLI | ldAHLD | ldHLIA | ldHLDA | push | ldSPHL | invalid => rfl
  | ldRRNN p nn => exact State.setPair_f _ _ _ (pairDD_ne_af p)
  | pop p =>
    have hp : p ≠ .af := by
      rintro rfl
      cases h
    exact State.setPair_f _ _ _ (pairQQ_ne_af hp)
  | ldHLSPE | aluR | aluHL | aluN => cases h

/-- An effect that is not listed as a writer of SP leaves SP alone (R29). -/
theorem effect_sp {fm : Form} (s : State) (h : writesSP fm = false) : (effect fm s).sp = s.sp := by
  cases fm with
  | ldRR | ldRN | ldRHL | ldABC | ldADE | ldANN | ldhAC | ldhAN => exact State.setReg_sp _ _ _
  | ldHLR | ldHLN | ldBCA | ldDEA | ldNNA | ldhCA | ldhNA | ldAHLI | ldAHLD | ldHLIA | ldHLDA | ldHLSPE | invalid => rfl
  | ldRRNN p nn =>
    cases p with
    | sp => cases h
    | bc | de | hl => rfl
  | aluR | aluHL | aluN => exact alu_sp _ _ _
  | push | pop | ldSPHL => cases h

/-! ### Who reads F (R27): the same effect on the state with another F -/

/-- The state with another F, all eight bits. -/
def State.withF (s : State) (f : Byte) : State := { s with f := f }

/-- F is no register an 8-bit field names (R83). -/
theorem State.withF_reg (s : State) (f : Byte) (r : Reg8) : (s.withF f).reg r = s.reg r := by cases r <;> rfl

theorem State.withF_setReg (s : State) (f : Byte) (r : Reg8) (v : Byte) :
    (s.withF f).setReg r v = (s.setReg r v).withF f := by cases r <;> rfl

/-- Writing a pair other than AF commutes with another F. -/
theorem State.withF_setPair (s : State) (f : Byte) {p : Pair} (v : Word) (hp : p ≠ .af) :
    (s.withF f).setPair p v = (s.setPair p v).withF f := by
  cases p with
  | af => exact absurd rfl hp
  | bc | de | hl | sp => rfl

/-- No pair but AF is read from F. -/
theorem State.withF_pair (s : State) (f : Byte) {p : Pair} (hp : p ≠ .af) : (s.withF f).pair p = s.pair p := by
  cases p with
  | af => exact absurd rfl hp
  | bc | de | hl | sp => rfl

/-- An effect that writes F and does not read it gives one state, whatever F was (R27). -/
theorem effect_withF_of_writes {fm : Form} (s : State) (f : Byte) (hr : readsFlags fm = false)
    (hw : writesFlags fm = true) : effect fm (s.withF f) = effect fm s := by
  cases fm with
  | ldHLSPE => rfl
  | pop p =>
    cases p with
    | af => rfl
    | bc | de | hl => cases hw
  | aluR op r =>
    cases op with
    | adc | sbc => cases hr
    | add | sub | cp => simp only [effect, State.withF_reg]; rfl
  | aluHL op | aluN op =>
    cases op with
    | adc | sbc => cases hr
    | add | sub | cp => rfl
  | ldRR | ldRN | ldRHL | ldHLR | ldHLN | ldABC | ldADE | ldBCA | ldDEA | ldANN | ldNNA | ldhAC | ldhCA | ldhAN | ldhNA
  | ldAHLI | ldAHLD | ldHLIA | ldHLDA | ldRRNN | push | ldSPHL | invalid => cases hw

/-- An effect that neither reads nor writes F carries F along (R27). -/
theorem effect_withF_of_keeps {fm : Form} (s : State) (f : Byte) (hr : readsFlags fm = false)
    (hw : writesFlags fm = false) : effect fm (s.withF f) = (effect fm s).withF f := by
  cases fm with
  | ldRR | ldRN | ldRHL => exact State.withF_setReg _ _ _ _
  | ldABC | ldADE | ldANN | ldhAC | ldhAN | ldHLR | ldHLN | ldBCA | ldDEA | ldNNA | ldhCA | ldhNA | ldAHLI | ldAHLD
  | ldHLIA | ldHLDA | ldSPHL | invalid => rfl
  | ldRRNN p nn => exact State.withF_setPair _ _ _ (pairDD_ne_af p)
  | push p =>
    have hp : p ≠ .af := by
      rintro rfl
      cases hr
    simp only [effect, State.withF_pair s f (pairQQ_ne_af hp)]
    rfl
  | pop p =>
    have hp : p ≠ .af := by
      rintro rfl
      cases hw
    exact State.withF_setPair s.pop16.2 f s.pop16.1 (pairQQ_ne_af hp)
  | ldHLSPE | aluR | aluHL | aluN => cases hw

/-! ### No effect reads PC or the counter (R38) -/

/-- The state with another PC and another counter. -/
def State.withPcCounter (s : State) (p : Word) (m : Counter) : State := { s with pc := p, mcycles := m }

theorem State.withPcCounter_setReg (s : State) (p : Word) (m : Counter) (r : Reg8) (v : Byte) :
    (s.withPcCounter p m).setReg r v = (s.setReg r v).withPcCounter p m := by cases r <;> rfl

theorem State.withPcCounter_setPair (s : State) (p : Word) (m : Counter) (q : Pair) (v : Word) :
    (s.withPcCounter p m).setPair q v = (s.setPair q v).withPcCounter p m := by cases q <;> rfl

theorem State.withPcCounter_pair (s : State) (p : Word) (m : Counter) (q : Pair) :
    (s.withPcCounter p m).pair q = s.pair q := by cases q <;> rfl

theorem State.withPcCounter_alu (s : State) (p : Word) (m : Counter) (op : AluOp) (b : Byte) :
    (s.withPcCounter p m).alu op b = (s.alu op b).withPcCounter p m := by cases op <;> rfl

/-- An effect neither reads nor writes PC and the counter: it carries both along (R38). -/
theorem effect_withPcCounter (fm : Form) (s : State) (p : Word) (m : Counter) :
    effect fm (s.withPcCounter p m) = (effect fm s).withPcCounter p m := by
  cases fm with
  | ldRR | ldRN | ldRHL => exact State.withPcCounter_setReg _ _ _ _ _
  | ldABC | ldADE | ldANN | ldhAC | ldhAN | ldHLR | ldHLN | ldBCA | ldDEA | ldNNA | ldhCA | ldhNA | ldAHLI | ldAHLD
  | ldHLIA | ldHLDA | ldSPHL | ldHLSPE | invalid => rfl
  | ldRRNN => exact State.withPcCounter_setPair _ _ _ _ _
  | pop q => exact State.withPcCounter_setPair s.pop16.2 p m q.pair s.pop16.1
  | push q =>
    simp only [effect, State.withPcCounter_pair]
    rfl
  | aluR | aluHL | aluN => exact State.withPcCounter_alu _ _ _ _ _

/-! ### Lengths, and the first bus access (R60, R95) -/

theorem encode_length (i : Instr) : (encode i).length = i.length := by
  show (i.form.immediates.length + 1) = i.form.length
  cases i.form <;> rfl

/-- A fetch leaves PC past the bytes of the instruction it gives (R30). -/
theorem fetchInstr_pc (s : State) : (fetchInstr s).2.pc = s.pc + BitVec.ofNat 16 (fetchInstr s).1.length := by
  rw [fetchInstr_eq]

/-- An instruction that executes moves PC past its bytes (R30). -/
theorem exec_pc {i : Instr} {s t : State} (h : exec i s = .next t) : t.pc = s.pc + BitVec.ofNat 16 i.length := by
  obtain ⟨-, rfl⟩ := (exec_next i s t).1 h
  simp [Instr.length]

/-- The first access of a step is its opcode fetch, at PC (R60). -/
theorem busTrace_head (s : State) : (busTrace s).head? = some (.fetch s.pc) := by
  unfold busTrace
  cases (fetchInstr s).1.form <;> rfl

/-! ### The bits of F (R25, R28) -/

theorem Flag.bit_lt (x : Flag) : x.bit < 8 := by cases x <;> decide

/-- A flag written into F, bit by bit: the flag's own bit takes the value, the others stay. -/
theorem getLsbD_writeFlag (f : Byte) (x : Flag) (v : Bool) (k : Nat) :
    (writeFlag f x v).getLsbD k = if k = x.bit then v else f.getLsbD k := by
  have hx := x.bit_lt
  have hf : 8 ≤ k → f.getLsbD k = false := f.getLsbD_of_ge k
  rw [writeFlag, ← BitVec.twoPow_eq]
  cases v with
  | true =>
    simp only [if_true, BitVec.getLsbD_or, BitVec.getLsbD_twoPow]
    grind
  | false =>
    simp only [Bool.false_eq_true, if_false, BitVec.getLsbD_and, BitVec.getLsbD_not, BitVec.getLsbD_twoPow]
    grind

/-- AF's bits 3 to 0 are F's. -/
theorem pair_af_low (s : State) (h : s.f &&& 0x0F#8 = 0#8) : s.pair .af &&& 0x000F#16 = 0#16 := by
  show (s.a ++ s.f) &&& (0x00#8 ++ 0x0F#8) = 0#16
  rw [BitVec.and_append, h, BitVec.and_zero]
  rfl

end Sys2Proof.Machine
end

-- Proofs, family 10_state: the obligations.
section
/-! The statements of the family 10_state.md, assembled from the rules above. -/

namespace Sys2Proof.Machine

/-- Settles O3: `Inv.afterStep`, `Inv.afterFault` and `Inv.write8`, the invariant's rule for each kind of move. -/
theorem everyStepKeepsInvariant : Obligations.EveryStepKeepsInvariant :=
  ⟨fun _ _ h hs => h.afterStep hs, fun _ _ _ h hs => h.afterStep hs, fun _ _ _ _ _ h hs => h.afterFault hs,
    fun _ addr v h => h.write8 addr v⟩

/-- Settles O4: every reachable state meets the invariant, and AF shows F in its low byte. -/
theorem flagLowNibbleZeroInReachableStates : Obligations.FlagLowNibbleZeroInReachableStates := by
  refine ⟨fun _ _ => rfl, fun mc s hs => ?_⟩
  obtain ⟨-, hlow⟩ := hs.inv
  exact ⟨hlow, pair_af_low s hlow⟩

/-- Settles O5: a pair is the join of its halves, as a number by `join_toNat`. -/
theorem pairsAndHalvesAreOneStorage : Obligations.PairsAndHalvesAreOneStorage := by
  intro s v x
  have hback : ∀ p : Pair, p ≠ .af → (s.setPair p v).pair p = v := by
    intro p hp
    rw [State.pair_setPair]
    cases p with
    | af => exact absurd rfl hp
    | bc | de | hl | sp => rfl
  exact ⟨join_toNat _ _, join_toNat _ _, join_toNat _ _, join_toNat _ _, rfl, rfl, rfl, rfl, hback,
    join_toNat _ _, join_toNat _ _, join_toNat _ _, join_toNat _ _, join_toNat _ _, join_toNat _ _, join_toNat _ _⟩

/-- Settles O23: the step moves PC by the length of the instruction at PC, the fetch by as much. -/
theorem pcAdvancesByTheLength : Obligations.PcAdvancesByTheLength := by
  intro mc s t hs
  obtain ⟨u, hu, rfl⟩ := (stepWith_next mc s t).1 hs
  have hpc : u.pc = s.pc + BitVec.ofNat 16 (fetchInstr s).1.length := exec_pc hu
  exact ⟨by rw [encode_length, State.addCycles_pc, hpc], by rw [fetchInstr_pc, State.addCycles_pc, hpc]⟩

/-- Settles O26, by `effect_f`: the case split over the forms. -/
theorem flagsChangeOnlyByAluSpOffsetAndPopAf : Obligations.FlagsChangeOnlyByAluSpOffsetAndPopAf := by
  intro i s t hw hs
  obtain ⟨-, rfl⟩ := (exec_next i s t).1 hs
  exact effect_f s hw

/-- Settles O27: a writer of F gives the same state again, any other instruction carries the new F along. -/
theorem flagsAreReadOnlyByAdcSbcAndPushAf : Obligations.FlagsAreReadOnlyByAdcSbcAndPushAf := by
  intro i s t f hr hs
  obtain ⟨hn, rfl⟩ := (exec_next i s t).1 hs
  have hu : exec i (s.withF f) = .next ((effect i.form (s.withF f)).advance i.form) := exec_of_form i _ _ rfl hn
  refine ⟨_, hu, ?_⟩
  cases hw : writesFlags i.form with
  | true =>
    rw [effect_withF_of_writes s f hr hw]
    exact ⟨rfl, fun _ => rfl, (nomatch ·)⟩
  | false =>
    rw [effect_withF_of_keeps s f hr hw]
    exact ⟨rfl, (nomatch ·), fun _ => rfl⟩

/-- Settles O29: the effect carries PC along, and `State.advance` moves it by the length. -/
theorem pcIsReadByFetchOnly : Obligations.PcIsReadByFetchOnly := by
  intro i s t p hs
  obtain ⟨hn, rfl⟩ := (exec_next i s t).1 hs
  have heff : effect i.form (s.withPcCounter p s.mcycles) = { effect i.form s with pc := p } := by
    rw [effect_withPcCounter, State.withPcCounter, ← effect_mcycles i.form s]
  calc exec i (s.withPcCounter p s.mcycles)
      = .next ((effect i.form (s.withPcCounter p s.mcycles)).advance i.form) := exec_of_form i _ _ rfl hn
    _ = .next (State.advance { effect i.form s with pc := p } i.form) := by rw [heff]

/-- Settles O30, by `effect_sp`: the case split over the forms. -/
theorem spChangesOnlyByItsWriters : Obligations.SpChangesOnlyByItsWriters := by
  intro i s t hw hs
  obtain ⟨-, rfl⟩ := (exec_next i s t).1 hs
  exact effect_sp s hw

/-- Settles O1: the values are `State.reset`'s; the first access is `busTrace_head`'s. -/
theorem constructionGivesPostBootState : Obligations.ConstructionGivesPostBootState := by
  refine ⟨fun mem0 => ?_, rfl, rfl, fun _ _ _ => rfl⟩
  have hflags : FlagsAre (construct mem0) true false true true := by
    simp only [FlagsAre, State.flag, construct_f]
    decide
  have hpair (p : Pair) (v : Word) (h : State.reset.pair p = v) : (construct mem0).pair p = v :=
    (construct_pair mem0 p).trans h
  exact ⟨rfl, rfl, rfl, rfl, rfl, rfl, rfl, rfl, rfl, rfl,
    hpair .af _ (by decide), hpair .bc _ (by decide), hpair .de _ (by decide), hpair .hl _ (by decide),
    hflags, rfl, rfl, busTrace_head _⟩

/-- Settles O2: `State.reset` is construction over the memory with nothing listed. -/
theorem constructionMeetsInvariant : Obligations.ConstructionMeetsInvariant :=
  ⟨construct_inv Memory.wf_nil, fun _ h => construct_inv h⟩

/-- Settles O6: the field F[7:4] is the high half of an append, a flag is one bit. -/
theorem flagFieldRoundTrip : Obligations.FlagFieldRoundTrip := by
  refine ⟨fun f v => ⟨BitVec.extractLsb'_append_eq_left, fun k hk => ?_⟩, fun f x v => ⟨?_, fun k hk => ?_⟩⟩
  · rw [writeFlagField, BitVec.getLsbD_append, if_pos hk]
    simp [hk]
  · rw [readFlag, getLsbD_writeFlag, if_pos rfl]
  · rw [getLsbD_writeFlag, if_neg hk]

end Sys2Proof.Machine
end

-- Proofs, family 20_memory: the rules about memory, immediates and bus accesses.
section
/-! What a write does to the state as a whole, which bytes an immediate comes from, and what the bus accesses of a step leave in
memory. -/

namespace Sys2Proof.Machine

/-! ### Writes (R52, R55) -/

/-- The canonical form makes a write of the byte already stored the identity (R55). -/
theorem Memory.write_read {m : Memory} {a : Nat} (h : m.wf) (ha : a < Config.memorySize) :
    m.write a (m.read a) = m := by
  refine Memory.ext_of_wf _ _ (Memory.write_wf m a _ h ha) h (fun b => ?_)
  by_cases hb : b = a
  · rw [hb, Memory.read_write_same]
  · exact Memory.read_write_other m a b _ hb

theorem State.write8_read8 {s : State} (h : s.mem.wf) (addr : Word) : s.write8 addr (s.read8 addr) = s := by
  rw [State.write8, State.read8, Memory.write_read h addr.isLt]

theorem State.read8_write8_same (s : State) (addr : Word) (v : Byte) : (s.write8 addr v).read8 addr = v := by
  rw [State.read8_write8, if_pos rfl]

theorem State.read8_write8_other (s : State) {addr other : Word} (v : Byte) (h : other ≠ addr) :
    (s.write8 addr v).read8 other = s.read8 other := by
  rw [State.read8_write8, if_neg h]

/-- A read looks at memory only (R51). -/
theorem State.read8_eq_of_mem {s t : State} (h : t.mem = s.mem) (addr : Word) : t.read8 addr = s.read8 addr := by
  rw [State.read8, State.read8, h]

/-! ### Immediate bytes (R57, R82, R93) -/

/-- The instruction an entry builds from two bytes has as its immediate bytes those the entry took, a word's low byte first. -/
def KeepsItsImmediates (b1 b2 : Byte) : MapEntry → Prop
  | .plain i => i.form.immediates = []
  | .imm8 k => (k b1).form.immediates = [b1]
  | .imm16 k => (k (join b2 b1)).form.immediates = [loByte (join b2 b1), hiByte (join b2 b1)]

theorem opcodeMap_keepsItsImmediates (op b1 b2 : Byte) : KeepsItsImmediates b1 b2 (opcodeMap op) := by
  obtain ⟨k, hk⟩ := op
  interval_cases k <;> exact rfl

/-- The immediate bytes of a decoded instruction are the bytes after the opcode, in their order (R82, R93). -/
theorem decodeOp_immediates_prefix (op b1 b2 : Byte) : (decodeOp op b1 b2).form.immediates <+: [b1, b2] := by
  have h := opcodeMap_keepsItsImmediates op b1 b2
  rw [decodeOp]
  cases hop : opcodeMap op <;> rw [hop, KeepsItsImmediates] at h
  case plain => exact h ▸ List.nil_prefix
  case imm8 => exact h ▸ List.prefix_append [b1] [b2]
  case imm16 =>
    rw [loByte_join, hiByte_join] at h
    exact h ▸ List.prefix_refl [b1, b2]

/-- A 16-bit immediate is the byte at PC+2 over the byte at PC+1 (R57, R93). -/
theorem fetchInstr_word {s : State} {nn : Word}
    (h : (fetchInstr s).1.form.immediates = [loByte nn, hiByte nn]) :
    nn = join (s.read8 (s.pc + 2)) (s.read8 (s.pc + 1)) := by
  have hpre := decodeOp_immediates_prefix (s.read8 s.pc) (s.read8 (s.pc + 1)) (s.read8 (s.pc + 1 + 1))
  rw [fetchInstr_eq] at h
  rw [h] at hpre
  obtain ⟨hlo, hhi⟩ : loByte nn = s.read8 (s.pc + 1) ∧ hiByte nn = s.read8 (s.pc + 1 + 1) := by
    simpa using hpre.eq_of_length rfl
  rw [← join_hiByte_loByte nn, hlo, hhi, BitVec.add_assoc]
  rfl

/-! ### What a list of bus accesses leaves in memory (R52, R60) -/

/-- Fetches store nothing (R59). -/
theorem applyAccesses_fetches_append (addr : Word) (n : Nat) (l : List BusAccess) (s : State) :
    applyAccesses (fetches addr n ++ l) s = applyAccesses l s := by
  induction n generalizing addr with
  | zero => rfl
  | succ n ih => exact ih (addr + 1)

theorem write_notMem_fetches (a addr : Word) (v : Byte) (n : Nat) : BusAccess.write a v ∉ fetches addr n := by
  induction n generalizing addr with
  | zero => exact List.not_mem_nil
  | succ n ih => simpa [fetches] using ih (addr + 1)

/-- A byte that no listed write names stays. -/
theorem applyAccesses_read8_of_unwritten {addr : Word} {l : List BusAccess} (s : State)
    (h : ∀ v, BusAccess.write addr v ∉ l) : (applyAccesses l s).read8 addr = s.read8 addr := by
  induction l generalizing s with
  | nil => rfl
  | cons x rest ih =>
    have hrest : ∀ v, BusAccess.write addr v ∉ rest := fun v hv => h v (List.mem_cons_of_mem x hv)
    cases x with
    | fetch | read => exact ih s hrest
    | write a w =>
      have hne : addr ≠ a := by
        rintro rfl
        exact h w List.mem_cons_self
      exact (ih _ hrest).trans (State.read8_write8_other s w hne)

/-- A byte that the list writes, always with the same value, has that value. -/
theorem applyAccesses_read8_of_written {addr : Word} {v : Byte} {l : List BusAccess} (s : State)
    (hv : BusAccess.write addr v ∈ l) (huniq : ∀ w, BusAccess.write addr w ∈ l → w = v) :
    (applyAccesses l s).read8 addr = v := by
  induction l generalizing s with
  | nil => exact absurd hv List.not_mem_nil
  | cons x rest ih =>
    have huniq' : ∀ w, BusAccess.write addr w ∈ rest → w = v := fun w hw => huniq w (List.mem_cons_of_mem x hw)
    by_cases hrest : BusAccess.write addr v ∈ rest
    · cases x with
      | fetch | read | write => exact ih _ hrest huniq'
    · obtain rfl : BusAccess.write addr v = x := (List.mem_cons.1 hv).resolve_right hrest
      have hlast : ∀ w, BusAccess.write addr w ∉ rest := fun w hw => hrest (huniq' w hw ▸ hw)
      exact (applyAccesses_read8_of_unwritten _ hlast).trans (State.read8_write8_same s addr v)

/-! ### The bus accesses of a step (R60, R61) -/

/-- The writes of a step are among its data accesses. -/
theorem write_mem_busTrace (s : State) (addr : Word) (v : Byte) :
    BusAccess.write addr v ∈ busTrace s ↔ BusAccess.write addr v ∈ dataAccesses s (fetchInstr s).1.form := by
  simp [busTrace, write_notMem_fetches]

/-- Two addresses one apart differ; so a push writes two bytes (R163). -/
theorem sub_one_ne_sub_two (w : Word) : w - 1 ≠ w - 2 := by
  intro h
  bv_omega

/-- No instruction writes two values to one address: only PUSH writes twice, at SP-1 and at SP-2 (R163). -/
theorem dataAccesses_write_unique {s : State} {fm : Form} {addr : Word} {v w : Byte}
    (hv : BusAccess.write addr v ∈ dataAccesses s fm) (hw : BusAccess.write addr w ∈ dataAccesses s fm) : v = w := by
  cases fm with
  | push p =>
    have hne := sub_one_ne_sub_two s.sp
    simp only [dataAccesses, List.mem_cons, BusAccess.write.injEq, List.not_mem_nil, or_false] at hv hw
    obtain ⟨ha, hv⟩ | ⟨ha, hv⟩ := hv <;> obtain ⟨hb, hw⟩ | ⟨hb, hw⟩ := hw
    · exact hv.trans hw.symm
    · exact absurd (ha.symm.trans hb) hne
    · exact absurd (hb.symm.trans ha) hne
    · exact hv.trans hw.symm
  | ldHLR | ldHLN | ldBCA | ldDEA | ldNNA | ldhCA | ldhNA | ldHLIA | ldHLDA =>
    simp only [dataAccesses, List.mem_singleton, BusAccess.write.injEq] at hv hw
    exact hv.2.trans hw.2.symm
  | ldRR | ldRN | ldRHL | ldABC | ldADE | ldANN | ldhAC | ldhAN | ldAHLI | ldAHLD | ldRRNN | pop | ldSPHL | ldHLSPE
  | aluR | aluHL | aluN | invalid => simp [dataAccesses] at hv

/-- An effect stores what its form's data accesses store, and nothing else (R60). -/
theorem effect_mem (fm : Form) (s : State) : (effect fm s).mem = (applyAccesses (dataAccesses s fm) s).mem := by
  cases fm with
  | ldRR | ldRN | ldRHL => exact State.setReg_mem _ _ _
  | ldRRNN => exact State.setPair_mem _ _ _
  | pop p => exact State.setPair_mem s.pop16.2 p.pair s.pop16.1
  | aluR | aluHL | aluN => exact alu_mem _ _ _
  | push p =>
    have hsp : s.sp - 1 - 1 = s.sp - 2 := by bv_omega
    simp only [effect, State.push16, dataAccesses, applyAccesses, State.write8_sp, State.setSP_sp, hsp]
    rfl
  | ldABC | ldADE | ldANN | ldhAC | ldhAN | ldAHLI | ldAHLD | ldHLR | ldHLN | ldBCA | ldDEA | ldNNA | ldhCA | ldhNA
  | ldHLIA | ldHLDA | ldSPHL | ldHLSPE | invalid => rfl

/-- A step stores what its bus accesses store, and nothing else (R60). -/
theorem stepWith_mem {mc : CycleTable} {s t : State} (h : stepWith mc s = .next t) :
    t.mem = (applyAccesses (busTrace s) s).mem := by
  obtain ⟨u, hu, rfl⟩ := (stepWith_next mc s t).1 h
  obtain ⟨-, rfl⟩ := (exec_next _ s u).1 hu
  rw [busTrace, applyAccesses_fetches_append, ← effect_mem]
  rfl

theorem stepWith_read8 {mc : CycleTable} {s t : State} (h : stepWith mc s = .next t) (addr : Word) :
    t.read8 addr = (applyAccesses (busTrace s) s).read8 addr :=
  State.read8_eq_of_mem (stepWith_mem h) addr

/-- A byte that a step writes reads as written after it. -/
theorem stepWith_read8_of_written {mc : CycleTable} {s t : State} {addr : Word} {v : Byte} (h : stepWith mc s = .next t)
    (hv : BusAccess.write addr v ∈ busTrace s) : t.read8 addr = v := by
  rw [stepWith_read8 h]
  refine applyAccesses_read8_of_written s hv (fun w hw => ?_)
  rw [write_mem_busTrace] at hv hw
  exact dataAccesses_write_unique hw hv

/-- A byte that a step does not write reads as before. -/
theorem stepWith_read8_of_unwritten {mc : CycleTable} {s t : State} {addr : Word} (h : stepWith mc s = .next t)
    (hv : ∀ v, BusAccess.write addr v ∉ busTrace s) : t.read8 addr = s.read8 addr :=
  (stepWith_read8 h addr).trans (applyAccesses_read8_of_unwritten s hv)

/-- A step that succeeds moves PC past the bytes of its instruction (R30). -/
theorem stepWith_pc {mc : CycleTable} {s t : State} (h : stepWith mc s = .next t) :
    t.pc = s.pc + BitVec.ofNat 16 (fetchInstr s).1.length := by
  obtain ⟨hpc, -⟩ := pcAdvancesByTheLength mc s t h
  rwa [encode_length] at hpc

/-- A step that fails fetches its opcode and nothing else (R88, R232). -/
theorem busTrace_of_fault {mc : CycleTable} {s : State} {r : Fault} (h : stepWith mc s = .fault r) :
    busTrace s = [.fetch s.pc] := by
  obtain ⟨op, hop, -⟩ := (exec_fault _ s r).1 ((stepWith_fault mc s r).1 h)
  rw [busTrace, hop]
  rfl

end Sys2Proof.Machine
end

-- Proofs, family 20_memory: the obligations.
section
/-! The statements of the family 20_memory.md, assembled from the rules above. -/

namespace Sys2Proof.Machine

/-- Settles O7: `State.read8_write8`, split by whether the address is the written one. -/
theorem readAfterWrite : Obligations.ReadAfterWrite := fun s addr _ v =>
  ⟨State.read8_write8_same s addr v, State.read8_write8_other s v, rfl, rfl⟩

/-- Settles O8: a write changes one byte, and in the canonical form equal bytes are equal lists. -/
theorem memoryHasNoSideEffects : Obligations.MemoryHasNoSideEffects :=
  ⟨fun s _ v => ⟨fun _ hb => State.read8_write8_other s v (List.ne_of_not_mem_cons hb), rfl, rfl⟩,
    fun _ addr h => State.write8_read8 h addr⟩

/-- Settles O9: the forms with `nn` have it as their immediate bytes, and `fetchInstr_word` says where these stand. -/
theorem immediatesAreLittleEndian : Obligations.ImmediatesAreLittleEndian := by
  refine ⟨fun s nn h => ?_, fun s => ⟨join_toNat _ _, ?_⟩⟩
  · have himm : (fetchInstr s).1.form.immediates = [loByte nn, hiByte nn] := by
      obtain h | h | ⟨p, h⟩ := h <;> rw [h] <;> rfl
    rw [fetchInstr_word himm, join_toNat]
  · show { s with pc := s.pc + 1 + 1 } = { s with pc := s.pc + 2 }
    rw [BitVec.add_assoc]
    rfl

/-- Settles O11: memory after a step by `stepWith_read8`, a failed step by `busTrace_of_fault`. -/
theorem stepMemoryIsItsBusWrites : Obligations.StepMemoryIsItsBusWrites :=
  ⟨fun _ _ _ h => stepWith_read8 h, fun _ _ _ h hno addr => stepWith_read8_of_unwritten h (hno addr),
    fun _ _ _ h => busTrace_of_fault h⟩

/-- Settles O12: a fetch is a read at PC, so the rules for a byte a step writes or leaves say what it gives. -/
theorem storedByteIsFetchedNext : Obligations.StoredByteIsFetchedNext := by
  refine ⟨fun mc s t h => ⟨stepWith_read8 h t.pc, fun v hv => stepWith_read8_of_written h hv,
    stepWith_read8_of_unwritten h⟩, fun mc s t src hfm hhl h => ?_, fun s v => State.read8_write8_same s s.pc v⟩
  have hpc : t.pc = s.addrHL := by
    rw [stepWith_pc h, Instr.length, hfm]
    exact hhl.symm
  refine stepWith_read8_of_written h ((write_mem_busTrace s _ _).2 ?_)
  rw [hfm, hpc]
  exact List.mem_singleton_self _

end Sys2Proof.Machine
end

-- Proofs, family 30_encoding: the rules about the encoder and the decoder.
section
/-! What the opcode byte alone decides, the instruction a form stands for, and which lists of bytes decode to what. -/

namespace Sys2Proof

open Sys2Proof.Machine

/-! ### The opcode byte decides all but the immediates (R82) -/

/-- The form with its immediates set to zero. -/
def Form.clear : Form → Form
  | .ldRN dst _ => .ldRN dst 0
  | .ldHLN _ => .ldHLN 0
  | .ldANN _ => .ldANN 0
  | .ldNNA _ => .ldNNA 0
  | .ldhAN _ => .ldhAN 0
  | .ldhNA _ => .ldhNA 0
  | .ldRRNN p _ => .ldRRNN p 0
  | .ldHLSPE _ => .ldHLSPE 0
  | .aluN o _ => .aluN o 0
  | fm => fm

@[simp] theorem Form.clear_opcode (fm : Form) : fm.clear.opcode = fm.opcode := by cases fm <;> rfl
@[simp] theorem Form.clear_length (fm : Form) : fm.clear.length = fm.length := by cases fm <;> rfl
@[simp] theorem Form.clear_mnemonic (fm : Form) : fm.clear.mnemonic = fm.mnemonic := by cases fm <;> rfl
@[simp] theorem Form.clear_wellFormed (fm : Form) : fm.clear.wellFormed = fm.wellFormed := by cases fm <;> rfl

/-- An empty entry has no immediate to clear. -/
theorem Form.clear_eq_invalid {fm : Form} {op : Byte} (h : fm.clear = .invalid op) : fm = .invalid op := by
  cases fm with
  | invalid => exact h
  | _ => cases h

/-- Two instructions decoded from one opcode byte differ in their immediates only. -/
theorem decodeOp_clear (op b1 b2 : Byte) : (decodeOp op b1 b2).form.clear = (decodeOp op 0 0).form := by
  obtain ⟨k, hk⟩ := op
  interval_cases k <;> exact rfl

/-- The fields of R83 against the map of R86, byte by byte. -/
theorem decodeOp_zero : ∀ op : Byte, (decodeOp op 0 0).form.opcode = op ∧ (decodeOp op 0 0).form.wellFormed = true := by
  decide

theorem decodeOp_opcode (op b1 b2 : Byte) : (decodeOp op b1 b2).form.opcode = op := by
  rw [← Form.clear_opcode, decodeOp_clear]
  exact (decodeOp_zero op).1

theorem decodeOp_wellFormed (op b1 b2 : Byte) : (decodeOp op b1 b2).wellFormed = true := by
  rw [Instr.wellFormed, ← Form.clear_wellFormed, decodeOp_clear]
  exact (decodeOp_zero op).2

theorem decodeOp_length (op b1 b2 : Byte) : (decodeOp op b1 b2).form.length = (decodeOp op 0 0).form.length := by
  rw [← decodeOp_clear op b1 b2, Form.clear_length]

theorem decodeOp_mnemonic (op b1 b2 : Byte) : (decodeOp op b1 b2).form.mnemonic = opcodeMnemonic op := by
  rw [opcodeMnemonic, ← decodeOp_clear op b1 b2, Form.clear_mnemonic]

/-! ### The empty entries (R87) -/

theorem decodeOp_form_of_empty : ∀ op ∈ emptyEntries, (decodeOp op 0 0).form = .invalid op := by
  intro op h
  fin_cases h <;> rfl

/-- The bytes that decode to INVALID are the listed ones: the map sends those there, and what it decodes is well formed. -/
theorem decodeOp_eq_invalid (op b1 b2 : Byte) : decodeOp op b1 b2 = .invalid op ↔ op ∈ emptyEntries := by
  constructor
  · intro h
    have hwf := decodeOp_wellFormed op b1 b2
    rw [h] at hwf
    exact List.contains_iff_mem.1 hwf
  · intro h
    rw [← form_eq_invalid]
    exact Form.clear_eq_invalid ((decodeOp_clear op b1 b2).trans (decodeOp_form_of_empty op h))

/-- Only an empty entry has no mnemonic (R96). -/
theorem Form.mnemonic_eq_none (fm : Form) : fm.mnemonic = none ↔ fm = .invalid fm.opcode := by
  cases fm <;> simp [Form.mnemonic, Form.opcode]

theorem opcodeMnemonic_eq_none (op : Byte) : opcodeMnemonic op = none ↔ op ∈ emptyEntries := by
  rw [opcodeMnemonic, Form.mnemonic_eq_none, decodeOp_opcode, form_eq_invalid, decodeOp_eq_invalid]

/-- All that an entry of the opcode table holds (R84). -/
theorem opcodeTable_eq_some {mc : CycleTable} {op : Byte} {d : OpcodeDescriptor} :
    opcodeTable mc op = some d ↔
      opcodeMnemonic op = some d.mnemonic ∧ (decodeOp op 0 0).form.length = d.length ∧ mc op = d.mcycles := by
  obtain ⟨m, n, c⟩ := d
  simp [opcodeTable]

/-! ### The instruction a form stands for (R85, R86) -/

/-- The instruction that the form's opcode byte and immediates decode to. -/
def Form.decoded (fm : Form) : Instr := decodeOp fm.opcode (fm.immediates.getD 0 0) (fm.immediates.getD 1 0)

theorem Form.wellFormed_or_invalid (fm : Form) : fm.wellFormed = true ∨ ∃ op, fm = .invalid op := by
  cases fm with
  | invalid op => exact .inr ⟨op, rfl⟩
  | _ => exact .inl rfl

theorem Form.decoded_invalid {op : Byte} (h : (Form.invalid op).wellFormed = true) :
    (Form.invalid op).decoded = .invalid op :=
  (decodeOp_eq_invalid op 0 0).2 (List.contains_iff_mem.1 h)

/-- A form's opcode byte and immediates give an instruction of that form: the fields of R83 agree with the map of R86. -/
theorem Form.decoded_form {fm : Form} (h : fm.wellFormed = true) : fm.decoded.form = fm := by
  cases fm with
  | ldRR dst src => cases dst <;> cases src <;> rfl
  | aluR o r => cases o <;> cases r <;> rfl
  | ldRN r | ldRHL r | ldHLR r => cases r <;> rfl
  | aluHL o | aluN o => cases o <;> rfl
  | push p | pop p => cases p <;> rfl
  | ldRRNN p nn =>
    conv_rhs => rw [← join_hiByte_loByte nn]
    cases p <;> rfl
  | ldANN nn | ldNNA nn =>
    conv_rhs => rw [← join_hiByte_loByte nn]
    rfl
  | ldHLN | ldABC | ldADE | ldBCA | ldDEA | ldhAC | ldhCA | ldhAN | ldhNA | ldAHLI | ldAHLD | ldHLIA | ldHLDA | ldSPHL
  | ldHLSPE => rfl
  | invalid op => rw [Form.decoded_invalid h]; rfl

/-- An instruction is the one its own form stands for. -/
theorem Instr.form_decoded {i : Instr} (h : i.wellFormed = true) : i.form.decoded = i := by
  cases i with
  | ld_bc_nn nn | ld_de_nn nn | ld_hl_nn nn | ld_sp_nn nn | ld_mnn_a nn | ld_a_mnn nn =>
    conv_rhs => rw [← join_hiByte_loByte nn]
    rfl
  | invalid op => exact Form.decoded_invalid h
  | _ => rfl

/-! ### Lists of bytes (R82, R90) -/

/-- Bytes decode to what their opcode and the two bytes after it stand for, with just its immediates taken. -/
theorem decode_decodeOp (op b1 b2 : Byte) (rest : List Byte) :
    decode (op :: ((decodeOp op b1 b2).form.immediates ++ rest)) = .ok (decodeOp op b1 b2, rest) := by
  have himm := opcodeMap_keepsItsImmediates op b1 b2
  rw [decodeOp]
  cases hop : opcodeMap op <;> rw [hop, KeepsItsImmediates] at himm
  case plain | imm8 | imm16 => simp [himm, decode, hop]

/-- A list that begins with an opcode byte is too short, or holds the immediates of what it begins with. -/
theorem decode_error_or_immediates (op : Byte) (bs : List Byte) :
    decode (op :: bs) = .error (.truncated op) ∨ ∃ b1 b2 more, bs = (decodeOp op b1 b2).form.immediates ++ more := by
  have himm := opcodeMap_keepsItsImmediates op
  unfold decodeOp
  cases hop : opcodeMap op <;> rw [hop] at himm
  case plain => exact .inr ⟨0, 0, bs, by rw [himm 0 0]; rfl⟩
  case imm8 =>
    cases bs with
    | nil => simp [decode, hop]
    | cons n bs => exact .inr ⟨n, 0, bs, by rw [himm n 0]; rfl⟩
  case imm16 =>
    match bs with
    | [] | [_] => simp [decode, hop]
    | lo :: hi :: bs => exact .inr ⟨lo, hi, bs, by rw [himm lo hi, loByte_join, hiByte_join]; rfl⟩

/-- All that can be decoded. -/
theorem decode_ok {bytes rest : List Byte} {i : Instr} :
    decode bytes = .ok (i, rest) ↔
      ∃ op b1 b2, i = decodeOp op b1 b2 ∧ bytes = op :: (i.form.immediates ++ rest) := by
  constructor
  · intro h
    cases bytes with
    | nil => cases h
    | cons op bs =>
      obtain herr | ⟨b1, b2, more, rfl⟩ := decode_error_or_immediates op bs
      · cases herr.symm.trans h
      · cases (decode_decodeOp op b1 b2 more).symm.trans h
        exact ⟨op, b1, b2, rfl, rfl⟩
  · rintro ⟨op, b1, b2, rfl, rfl⟩
    exact decode_decodeOp op b1 b2 rest

/-- Bytes after the decoded ones are left as they are. -/
theorem decode_append {bytes rest : List Byte} {i : Instr} (more : List Byte) (h : decode bytes = .ok (i, rest)) :
    decode (bytes ++ more) = .ok (i, rest ++ more) := by
  rw [decode_ok] at h ⊢
  obtain ⟨op, b1, b2, hi, rfl⟩ := h
  exact ⟨op, b1, b2, hi, by simp⟩

/-- Three bytes are enough for every opcode (R82). -/
theorem decode_three (op b1 b2 : Byte) (rest : List Byte) :
    ∃ rest', decode (op :: b1 :: b2 :: rest) = .ok (decodeOp op b1 b2, rest') := by
  obtain ⟨rest', h⟩ := decodeOp_immediates_prefix op b1 b2
  exact ⟨rest' ++ rest, decode_ok.2 ⟨op, b1, b2, rfl, by rw [← List.append_assoc, h]; rfl⟩⟩

/-! ### The bytes at PC (R80, R82) -/

/-- Fewer bytes of memory are the beginning of more. -/
theorem bytesFrom_prefix (s : State) (addr : Word) (n k : Nat) : s.bytesFrom addr n <+: s.bytesFrom addr (n + k) := by
  induction n generalizing addr with
  | zero => exact List.nil_prefix
  | succ n ih =>
    rw [Nat.succ_add]
    exact (List.prefix_cons_inj _).2 (ih (addr + 1))

/-- However many bytes at PC decode, they decode to what the step fetches. -/
theorem fetchInstr_of_decode {s : State} {n : Nat} {i : Instr} {rest : List Byte}
    (h : decode (s.bytesFrom s.pc n) = .ok (i, rest)) : (fetchInstr s).1 = i := by
  obtain ⟨more, hmore⟩ := bytesFrom_prefix s s.pc n 3
  have hi := decode_append more h
  obtain ⟨rest', hfetch⟩ := decode_three (s.read8 s.pc) (s.read8 (s.pc + 1)) (s.read8 (s.pc + 1 + 1))
    (s.bytesFrom (s.pc + 1 + 1 + 1) n)
  rw [hmore] at hi
  cases hfetch.symm.trans hi
  rw [fetchInstr_eq]

end Sys2Proof
end

-- Proofs, family 30_encoding: the obligations.
section
/-! The statements of the family 30_encoding.md, assembled from the rules above. -/

namespace Sys2Proof.Machine

/-- Settles O13: an instruction is what its opcode byte and immediates decode to (`Instr.form_decoded`), whatever bytes follow. -/
theorem decodeOfEncode : Obligations.DecodeOfEncode := by
  intro i rest h
  have hi : i.form.decoded = i := Instr.form_decoded h
  rw [Form.decoded] at hi
  exact decode_ok.2 ⟨_, _, _, hi.symm, rfl⟩

/-- Settles O14: `decode_ok` gives the opcode byte and the immediates, and the encoder gives the same opcode byte. -/
theorem encodeOfDecode : Obligations.EncodeOfDecode := by
  intro bytes rest i h
  obtain ⟨op, b1, b2, rfl, rfl⟩ := decode_ok.1 h
  refine ⟨decodeOp_wellFormed op b1 b2, ?_, (encode_length _).symm⟩
  rw [encode, decodeOp_opcode, List.cons_append]

/-- Settles O15: INVALID is decoded from the listed bytes only, and an entry is missing exactly where the mnemonic is. -/
theorem emptyEntriesAreTheListedBytes : Obligations.EmptyEntriesAreTheListedBytes := by
  intro mc op b1 b2
  refine ⟨(decodeOp_eq_invalid op b1 b2).symm, ?_, fun hne => ?_⟩
  · rw [opcodeTable, Option.map_eq_none_iff, opcodeMnemonic_eq_none]
  · obtain ⟨m, hm⟩ := Option.ne_none_iff_exists'.1 (mt (opcodeMnemonic_eq_none op).1 hne)
    exact ⟨⟨m, _, mc op⟩, opcodeTable_eq_some.2 ⟨hm, rfl, rfl⟩, by rw [decodeOp_mnemonic, hm],
      (decodeOp_length op b1 b2).symm, rfl⟩

/-- Settles O18: a form stands for the instruction it decodes to, and an instruction of that form decodes to itself; the empty
entries are INVALID's alone. -/
theorem everyFormIsOneInstruction : Obligations.EveryFormIsOneInstruction := by
  intro fm
  obtain h | ⟨op, rfl⟩ := fm.wellFormed_or_invalid
  · refine ⟨fm.decoded, Form.decoded_form h, ?_⟩
    rintro j rfl
    exact (Instr.form_decoded h).symm
  · exact ⟨.invalid op, rfl, fun j => (form_eq_invalid j op).1⟩

/-- Settles O16, by evaluating the table at each byte that has an entry. -/
theorem opcodeTableLengthsAndCycles : Obligations.OpcodeTableLengthsAndCycles := by
  intro op d h
  obtain ⟨hm, hlen, hcyc⟩ := opcodeTable_eq_some.1 h
  have hentry : (opcodeMnemonic op).isSome = true := by rw [hm]; rfl
  rw [← hlen, ← hcyc]
  clear h hm hlen hcyc
  revert op
  decide

/-- Settles O17: the decoder run on each word. -/
theorem wordsDecodeAsTheSpecWritesThem : Obligations.WordsDecodeAsTheSpecWritesThem :=
  ⟨rfl, rfl, rfl, rfl, rfl, rfl, rfl, rfl, rfl, rfl, rfl, rfl, rfl, rfl, rfl, rfl, rfl⟩

/-- Settles O19: the bytes at PC decode to what the fetch gives, so the step's answer is exec's. -/
theorem stepRunsTheDecodedInstruction : Obligations.StepRunsTheDecodedInstruction := by
  refine ⟨fun mc s n i rest h => ?_, fun _ => rfl⟩
  obtain rfl : (fetchInstr s).1 = i := fetchInstr_of_decode h
  have hop : (fetchInstr s).1.opcode = s.read8 s.pc := by
    rw [fetchInstr_eq]
    exact decodeOp_opcode _ _ _
  refine ⟨fun t ht => (stepWith_next mc s _).2 ⟨t, ht, by rw [hop, State.addCycles]⟩,
    fun r hr => (stepWith_fault mc s r).2 hr, by rw [fetchInstr_eq]⟩

/-- Settles O58: the spelling of each listed byte's form. -/
theorem mnemonicsAreSpelledAsTheMapWritesThem : Obligations.MnemonicsAreSpelledAsTheMapWritesThem := by
  unfold Obligations.MnemonicsAreSpelledAsTheMapWritesThem
  decide

end Sys2Proof.Machine
end

-- Proofs, family 40_loads_8bit: the rules about loads and stores.
section
/-! What an instruction that loads one register, or stores one byte, leaves: the result and everything that stays the same, said once
for every form. -/

namespace Sys2Proof.Machine

/-! ### A register loaded, a byte stored (R110) -/

/-- `t` is `s` after a load of `v` into `dst` by an instruction of `len` bytes, before the cycles are added. -/
def Loaded (dst : Reg8) (v : Byte) (len : Nat) (s t : State) : Prop :=
  t.reg dst = v ∧ SameRegsExcept [dst] s t ∧ SameF s t ∧ SameSP s t ∧ SameMemory s t ∧ Retired len s t

/-- `t` is `s` after a store of `v` at `addr` by an instruction of `len` bytes, before the cycles are added. -/
def Stored (addr : Word) (v : Byte) (len : Nat) (s t : State) : Prop :=
  t.read8 addr = v ∧ SameMemoryExcept [addr] s t ∧ SameRegsExcept [] s t ∧ SameF s t ∧ SameSP s t ∧ Retired len s t

theorem State.reg_setReg_same (s : State) (r : Reg8) (v : Byte) : (s.setReg r v).reg r = v := by
  rw [State.reg_setReg, if_pos rfl]

theorem State.reg_setReg_other (s : State) {r q : Reg8} (v : Byte) (h : q ≠ r) : (s.setReg r v).reg q = s.reg q := by
  rw [State.reg_setReg, if_neg h]

theorem loaded_setReg_advance (dst : Reg8) (v : Byte) (fm : Form) (s : State) :
    Loaded dst v fm.length s ((s.setReg dst v).advance fm) := by
  refine ⟨?_, fun q hq => ?_, State.setReg_f s dst v, State.setReg_sp s dst v, State.setReg_read8 s dst v, ?_,
    State.setReg_mcycles s dst v⟩
  · rw [State.advance_reg, State.reg_setReg_same]
  · rw [State.advance_reg, State.reg_setReg_other s v (List.ne_of_not_mem_cons hq)]
  · rw [State.advance_pc, State.setReg_pc]

theorem stored_write8_advance (addr : Word) (v : Byte) (fm : Form) (s : State) :
    Stored addr v fm.length s ((s.write8 addr v).advance fm) := by
  refine ⟨State.read8_write8_same s addr v, fun b hb => ?_, fun q _ => ?_, rfl, rfl, rfl, rfl⟩
  · exact State.read8_write8_other s v (List.ne_of_not_mem_cons hb)
  · rw [State.advance_reg, State.write8_reg]

/-- A step that fetches an instruction that executes answers what it answers, with the cycles of the opcode byte added (R80). -/
theorem stepWith_of_exec {mc : CycleTable} {i : Instr} {s t : State} (hi : (fetchInstr s).1 = i) (ht : exec i s = .next t) :
    stepWith mc s = .next (t.addCycles (mc (s.read8 s.pc))) :=
  (stepWith_next mc s _).2 ⟨t, hi ▸ ht, rfl⟩

section Form
variable {i : Instr} {fm : Form} {s : State} {len : Nat}

/-- An instruction whose effect is a register write loads that register. -/
theorem exec_loads (dst : Reg8) {v : Byte} (hi : i.form = fm) (hn : ∀ op, fm ≠ .invalid op)
    (heff : effect fm s = s.setReg dst v) (hlen : fm.length = len) :
    ∃ t, exec i s = .next t ∧ Loaded dst v len s t := by
  subst hlen
  exact ⟨_, exec_of_form i fm s hi hn, heff ▸ loaded_setReg_advance dst v fm s⟩

/-- The same with the step that fetches the instruction. -/
theorem exec_loads_and_steps {dst : Reg8} {v : Byte} (hi : i.form = fm) (hn : ∀ op, fm ≠ .invalid op)
    (heff : effect fm s = s.setReg dst v) (hlen : fm.length = len) :
    ∃ t, exec i s = .next t ∧ t.reg dst = v ∧ SameRegsExcept [dst] s t ∧ SameF s t ∧ SameSP s t ∧ SameMemory s t ∧
      Retired len s t ∧ ∀ mc, (fetchInstr s).1 = i → stepWith mc s = .next (t.addCycles (mc (s.read8 s.pc))) := by
  obtain ⟨t, ht, hval, hregs, hf, hsp, hmem, hret⟩ := exec_loads dst hi hn heff hlen
  exact ⟨t, ht, hval, hregs, hf, hsp, hmem, hret, fun _ hfetch => stepWith_of_exec hfetch ht⟩

/-- An instruction whose effect is a memory write stores that byte. -/
theorem exec_stores {addr : Word} {v : Byte} (hi : i.form = fm) (hn : ∀ op, fm ≠ .invalid op)
    (heff : effect fm s = s.write8 addr v) (hlen : fm.length = len) :
    ∃ t, exec i s = .next t ∧ Stored addr v len s t := by
  subst hlen
  exact ⟨_, exec_of_form i fm s hi hn, heff ▸ stored_write8_advance addr v fm s⟩

end Form

/-! ### HL moved after an access (R112) -/

theorem State.reg_setReg_setReg_other (s : State) {r₁ r₂ q : Reg8} (v₁ v₂ : Byte) (h : q ∉ [r₁, r₂]) :
    ((s.setReg r₁ v₁).setReg r₂ v₂).reg q = s.reg q := by
  obtain ⟨h₁, h₂⟩ : q ≠ r₁ ∧ q ≠ r₂ := by simpa using h
  rw [State.reg_setReg_other _ v₂ h₂, State.reg_setReg_other s v₁ h₁]

/-- Writing a pair changes no 8-bit register but its halves, and SP has none (R22, R23). -/
theorem State.setPair_reg_other (s : State) (p : RegDD) (v : Word) {q : Reg8} (h : q ∉ halvesDD p) :
    (s.setPair p.pair v).reg q = s.reg q := by
  cases p with
  | sp => exact State.setSP_reg s v q
  | bc | de | hl => exact State.reg_setReg_setReg_other s (hiByte v) (loByte v) h

/-- The next word, modulo 65536 (R31). -/
theorem add_one_toNat (w : Word) : ((w + 1).toNat : Int) = (w.toNat + 1) % 65536 := by
  bv_omega

/-- The word before, modulo 65536 (R31). -/
theorem sub_one_toNat (w : Word) : ((w - 1).toNat : Int) = (w.toNat + -1) % 65536 := by
  bv_omega

section MoveHL
variable {i : Instr} {fm : Form} {s : State} {v : Byte} {w : Word} {delta : Int}

/-- A load of A with HL set after it, to the number `delta` away. -/
theorem exec_loads_then_setHL (hi : i.form = fm) (hn : ∀ op, fm ≠ .invalid op)
    (heff : effect fm s = (s.setReg .a v).setPair .hl w) (hw : (w.toNat : Int) = ((s.pair .hl).toNat + delta) % 65536) :
    ∃ t, exec i s = .next t ∧ t.a = v ∧ ((t.pair .hl).toNat : Int) = ((s.pair .hl).toNat + delta) % 65536 ∧
      SameRegsExcept [.a, .h, .l] s t ∧ SameF s t ∧ SameSP s t ∧ SameMemory s t ∧ Retired fm.length s t := by
  refine ⟨_, exec_of_form i fm s hi hn, ?_⟩
  rw [heff]
  refine ⟨rfl, ?_, fun q hq => ?_, rfl, rfl, fun _ => rfl, rfl, rfl⟩
  · rw [State.advance_pair, State.pair_setPair, hw]
  · rw [List.mem_cons, not_or] at hq
    obtain ⟨hqa, hqhl⟩ := hq
    rw [State.advance_reg]
    exact (State.setPair_reg_other _ .hl w hqhl).trans (State.reg_setReg_other s v hqa)

/-- A store at HL with HL set after it, to the number `delta` away. -/
theorem exec_stores_then_setHL (hi : i.form = fm) (hn : ∀ op, fm ≠ .invalid op)
    (heff : effect fm s = (s.write8 (s.pair .hl) v).setPair .hl w)
    (hw : (w.toNat : Int) = ((s.pair .hl).toNat + delta) % 65536) :
    ∃ t, exec i s = .next t ∧ t.read8 (s.pair .hl) = v ∧ SameMemoryExcept [s.pair .hl] s t ∧
      ((t.pair .hl).toNat : Int) = ((s.pair .hl).toNat + delta) % 65536 ∧
      SameRegsExcept [.h, .l] s t ∧ SameF s t ∧ SameSP s t ∧ Retired fm.length s t := by
  refine ⟨_, exec_of_form i fm s hi hn, ?_⟩
  rw [heff]
  refine ⟨State.read8_write8_same s _ v, fun b hb => ?_, ?_, fun q hq => ?_, rfl, rfl, rfl, rfl⟩
  · exact State.read8_write8_other s v (List.ne_of_not_mem_cons hb)
  · rw [State.advance_pair, State.pair_setPair, hw]
  · rw [State.advance_reg]
    exact (State.setPair_reg_other _ .hl w hq).trans (State.write8_reg s _ v q)

end MoveHL

/-! ### The high-RAM address (R111) -/

/-- The address is 0xFF over the offset, so the bitwise OR of R111 is a sum. -/
theorem hram_eq_join (o : Byte) : hram o = join 0xFF#8 o := rfl

end Sys2Proof.Machine
end

-- Proofs, family 40_loads_8bit: the obligations.
section
/-! The statements of the family 40_loads_8bit.md, assembled from the rules above: each form's effect is one load or one store, at the
address the statement names. -/

namespace Sys2Proof.Machine

/-- Settles O10: as a number, 0xFF over the offset is the sum. -/
theorem highRamAddress : Obligations.HighRamAddress := by
  intro o
  have hsum : (hram o).toNat = 0xFF00 + o.toNat := by
    rw [hram_eq_join, join_toNat]
    rfl
  have ho : o.toNat < 256 := o.isLt
  exact ⟨hsum, by omega, by omega⟩

/-- Settles O31: a load of the source register's byte, and the step adds the cycles. -/
theorem loadRegisterFromRegister : Obligations.LoadRegisterFromRegister := by
  intro i dst src s hi
  refine ⟨?_, exec_loads_and_steps hi nofun rfl rfl⟩
  rw [encode, hi]
  rfl

/-- Settles O32: a load of the immediate byte, and the step adds the cycles. -/
theorem loadRegisterImmediate : Obligations.LoadRegisterImmediate := by
  intro i dst n s hi
  refine ⟨?_, exec_loads_and_steps hi nofun rfl rfl⟩
  rw [encode, hi]
  rfl

/-- Settles O33: a load of the byte at HL, read before the register is written. -/
theorem loadRegisterFromHL : Obligations.LoadRegisterFromHL := fun _ dst _ hi =>
  exec_loads dst hi nofun rfl rfl

/-- Settles O34: a store at HL, of a register or of the immediate. -/
theorem storeAtHL : Obligations.StoreAtHL := by
  rintro i v len s (⟨src, hi, rfl, rfl⟩ | ⟨hi, rfl⟩)
  · exact exec_stores hi nofun rfl rfl
  · exact exec_stores hi nofun rfl rfl

/-- Settles O35: a load of A, from the address in BC, in DE or in the instruction. -/
theorem loadAFromAddress : Obligations.LoadAFromAddress := by
  rintro i addr len s (⟨hi, rfl, rfl⟩ | ⟨hi, rfl, rfl⟩ | ⟨hi, rfl⟩)
  · exact exec_loads .a hi nofun rfl rfl
  · exact exec_loads .a hi nofun rfl rfl
  · exact exec_loads .a hi nofun rfl rfl

/-- Settles O36: a store of A, at the address in BC, in DE or in the instruction. -/
theorem storeAAtAddress : Obligations.StoreAAtAddress := by
  rintro i addr len s (⟨hi, rfl, rfl⟩ | ⟨hi, rfl, rfl⟩ | ⟨hi, rfl⟩)
  · exact exec_stores hi nofun rfl rfl
  · exact exec_stores hi nofun rfl rfl
  · exact exec_stores hi nofun rfl rfl

/-- Settles O37: a load of A from high RAM, the offset in C or in the instruction. -/
theorem loadAFromHighRam : Obligations.LoadAFromHighRam := by
  rintro i o len s (⟨hi, rfl, rfl⟩ | ⟨hi, rfl⟩)
  · exact exec_loads .a hi nofun rfl rfl
  · exact exec_loads .a hi nofun rfl rfl

/-- Settles O38: a store of A in high RAM, the offset in C or in the instruction. -/
theorem storeAInHighRam : Obligations.StoreAInHighRam := by
  rintro i o len s (⟨hi, rfl, rfl⟩ | ⟨hi, rfl⟩)
  · exact exec_stores hi nofun rfl rfl
  · exact exec_stores hi nofun rfl rfl

/-- Settles O39: a load of A at the old HL, then HL set to the next word or the one before. -/
theorem loadAThenMoveHL : Obligations.LoadAThenMoveHL := by
  rintro i delta s (⟨hi, rfl⟩ | ⟨hi, rfl⟩)
  · exact exec_loads_then_setHL hi nofun rfl (add_one_toNat _)
  · exact exec_loads_then_setHL hi nofun rfl (sub_one_toNat _)

/-- Settles O40: a store of A at the old HL, then HL set to the next word or the one before. -/
theorem storeAThenMoveHL : Obligations.StoreAThenMoveHL := by
  rintro i delta s (⟨hi, rfl⟩ | ⟨hi, rfl⟩)
  · exact exec_stores_then_setHL hi nofun rfl (add_one_toNat _)
  · exact exec_stores_then_setHL hi nofun rfl (sub_one_toNat _)

end Sys2Proof.Machine
end

-- Proofs, family 41_loads_16bit_stack: the rules about pairs, the stack and SP plus an offset.
section
/-! What a pair written, a word pushed and a word popped leave, and the flags and the sum of `LD HL,SP+e`. -/

namespace Sys2Proof.Machine

/-! ### Every form: PC and the counter (R38) -/

theorem retired_effect_advance (fm : Form) (s : State) : Retired fm.length s ((effect fm s).advance fm) := by
  refine ⟨?_, effect_mcycles fm s⟩
  rw [State.advance_pc, effect_pc]

/-! ### Pairs (R22, R23) -/

/-- A pair whose halves are not masked reads as written. -/
theorem State.pair_setPair_of_ne_af (s : State) {p : Pair} (v : Word) (hp : p ≠ .af) : (s.setPair p v).pair p = v := by
  rw [State.pair_setPair]
  cases p with
  | af => exact absurd rfl hp
  | bc | de | hl | sp => rfl

theorem pairQQ_ne_sp (p : RegQQ) : p.pair ≠ .sp := by cases p <;> decide

theorem pairDD_ne_sp {p : RegDD} (h : p ≠ .sp) : p.pair ≠ .sp := by
  cases p with
  | sp => exact absurd rfl h
  | bc | de | hl => decide

/-- Writing a pair of the stack changes no 8-bit register but its halves. -/
theorem State.setPair_reg_other_of_qq (s : State) (p : RegQQ) (v : Word) {q : Reg8} (h : q ∉ halvesQQ p) :
    (s.setPair p.pair v).reg q = s.reg q := by
  cases p with
  | af => exact (State.writeF_reg _ _ q).trans (State.reg_setReg_other s (hiByte v) (List.ne_of_not_mem_cons h))
  | bc | de | hl => exact State.reg_setReg_setReg_other s (hiByte v) (loByte v) h

/-! ### What F holds after a write (R25, R26) -/

/-- The mask keeps the four flags. -/
theorem readFlag_maskF (v : Byte) (x : Flag) : readFlag (maskF v) x = v.getLsbD x.bit := by
  rw [readFlag, maskF, BitVec.getLsbD_and]
  cases x <;> exact Bool.and_true _

/-- The mask changes nothing where bits 3 to 0 are zero. -/
theorem maskF_eq_self {v : Byte} (h : v &&& 0x0F#8 = 0#8) : maskF v = v := by
  calc v &&& 0xF0#8 = v &&& 0xF0#8 ||| v &&& 0x0F#8 := by rw [h, BitVec.or_zero]
    _ = v &&& (0xF0#8 ||| 0x0F#8) := BitVec.and_or_distrib_left.symm
    _ = v := BitVec.and_allOnes

theorem flagsAre_of_masked {t : State} {v : Byte} (h : t.f = maskF v) :
    FlagsAre t (v.getLsbD 7) (v.getLsbD 6) (v.getLsbD 5) (v.getLsbD 4) := by
  simp only [FlagsAre, State.flag, h]
  exact ⟨readFlag_maskF v .z, readFlag_maskF v .n, readFlag_maskF v .h, readFlag_maskF v .c, maskF_low v⟩

theorem flagsAre_setFlags (s : State) (fl : Flags) : FlagsAre (s.setFlags fl) fl.z fl.n fl.h fl.c := by
  simp only [FlagsAre, State.flag, State.setFlags_f]
  exact ⟨toByte_z fl, toByte_n fl, toByte_h fl, toByte_c fl, toByte_low fl⟩

/-- The mask on the low byte clears bits 3 to 0 of the word (R26). -/
theorem join_maskF (v : Word) : join (hiByte v) (maskF (loByte v)) = v &&& 0xFFF0#16 := by
  calc join (hiByte v) (maskF (loByte v))
      = join (hiByte v &&& 0xFF#8) (loByte v &&& 0xF0#8) := congrArg (join · _) BitVec.and_allOnes.symm
    _ = join (hiByte v) (loByte v) &&& 0xFFF0#16 := BitVec.and_append.symm
    _ = v &&& 0xFFF0#16 := by rw [join_hiByte_loByte]

/-- AF reads back the word written with bits 3 to 0 cleared (R23, R26). -/
theorem State.pair_setPair_af (s : State) (v : Word) : (s.setPair .af v).pair .af = v &&& 0xFFF0#16 :=
  (State.pair_setPair s .af v).trans (join_maskF v)

/-- Where F's bits 3 to 0 are zero, clearing AF's changes nothing. -/
theorem State.pair_af_masked {s : State} (h : s.f &&& 0x0F#8 = 0#8) : s.pair .af &&& 0xFFF0#16 = s.pair .af := by
  rw [← join_maskF, State.pair, hiByte_join, loByte_join, maskF_eq_self h]

/-! ### The stack (R163 to R165) -/

theorem sub_one_sub_one (w : Word) : w - 1 - 1 = w - 2 := by bv_omega

theorem add_one_add_one (w : Word) : w + 1 + 1 = w + 2 := by bv_omega

theorem State.read8_push16_high (s : State) (v : Word) : (s.push16 v).read8 (s.sp - 1) = hiByte v := by
  rw [State.read8_push16, sub_one_sub_one, if_neg (sub_one_ne_sub_two s.sp), if_pos rfl]

theorem State.read8_push16_low (s : State) (v : Word) : (s.push16 v).read8 (s.sp - 2) = loByte v := by
  rw [State.read8_push16, sub_one_sub_one, if_pos rfl]

theorem State.read8_push16_other (s : State) (v : Word) {addr : Word} (h : addr ∉ [s.sp - 1, s.sp - 2]) :
    (s.push16 v).read8 addr = s.read8 addr := by
  obtain ⟨h₁, h₂⟩ : addr ≠ s.sp - 1 ∧ addr ≠ s.sp - 2 := by simpa using h
  rw [State.read8_push16, sub_one_sub_one, if_neg h₂, if_neg h₁]

/-- Moving PC on does not change what a pop reads (R38). -/
theorem State.advance_pop16_val (s : State) (fm : Form) : (s.advance fm).pop16.1 = s.pop16.1 := rfl

/-- A pop after a push gives the word pushed. -/
theorem State.pop16_push16_val (s : State) (v : Word) : (s.push16 v).pop16.1 = v := by
  have hhigh : s.sp - 2 + 1 = s.sp - 1 := by bv_omega
  rw [State.pop16_val, State.push16_sp, sub_one_sub_one, hhigh, State.read8_push16_high, State.read8_push16_low,
    join_hiByte_loByte]

/-- POP moves SP up by 2, whatever pair it writes. -/
theorem effect_pop_sp (p : RegQQ) (s : State) : (effect (.pop p) s).sp = s.sp + 2 :=
  (State.setPair_sp _ _ _ (pairQQ_ne_sp p)).trans (add_one_add_one s.sp)

/-! ### `LD HL,SP+e` (R94, R170, R171) -/

/-- The low four bits of a word are those of its low byte. -/
theorem lowNibble_loByte (w : Word) : lowNibble (loByte w) = w.toNat % 16 := by
  rw [lowNibble, loByte_toNat, Nat.mod_mod_of_dvd _ (by decide)]

/-- The sum with the offset as a signed number, modulo 65536. -/
theorem State.spPlus_toNat (s : State) (e : Byte) : ((s.spPlus e).toNat : Int) = (s.sp.toNat + e.toInt) % 65536 := by
  have hsum : s.spPlus e = BitVec.ofInt 16 (s.sp.toNat + e.toInt) := by
    rw [BitVec.ofInt_add, BitVec.ofInt_natCast, BitVec.ofNat_toNat, BitVec.setWidth_eq]
    rfl
  rw [hsum, BitVec.toNat_ofInt]
  omega

end Sys2Proof.Machine
end

-- Proofs, family 41_loads_16bit_stack: the obligations.
section
/-! The statements of the family 41_loads_16bit_stack.md, assembled from the rules above. -/

namespace Sys2Proof.Machine

/-- Settles O41: a pair write, which touches its halves or SP and nothing else. -/
theorem loadPairImmediate : Obligations.LoadPairImmediate := by
  intro i p nn s hi
  refine ⟨_, exec_of_form i _ s hi nofun, ?_, fun q hq => ?_, fun hp => ?_, effect_f s rfl, fun addr => ?_,
    retired_effect_advance _ s⟩
  · rw [State.advance_pair]
    exact State.pair_setPair_of_ne_af s nn (pairDD_ne_af p)
  · rw [State.advance_reg]
    exact State.setPair_reg_other s p nn hq
  · exact State.setPair_sp s p.pair nn (pairDD_ne_sp hp)
  · exact State.setPair_read8 s p.pair nn addr

/-- Settles O42: the two bytes a push stores, as numbers the pair's quotient and remainder by 256. -/
theorem pushStoresThePair : Obligations.PushStoresThePair := by
  intro i p s hi
  refine ⟨_, exec_of_form i _ s hi nofun, sub_one_sub_one s.sp, ?_, ?_, fun addr haddr => ?_, fun q _ => ?_, rfl,
    retired_effect_advance _ s⟩
  · exact (congrArg BitVec.toNat (State.read8_push16_high s _)).trans (hiByte_toNat _)
  · exact (congrArg BitVec.toNat (State.read8_push16_low s _)).trans (loByte_toNat _)
  · exact State.read8_push16_other s _ haddr
  · rw [State.advance_reg]
    exact State.push16_reg s _ q

/-- Settles O43: the word popped is the join of the two bytes, and a pair other than AF takes it unmasked. -/
theorem popLoadsThePair : Obligations.PopLoadsThePair := by
  intro i p s hi hp
  have hkeepsF : writesFlags (.pop p) = false := by
    cases p with
    | af => exact absurd rfl hp
    | bc | de | hl => rfl
  refine ⟨_, exec_of_form i _ s hi nofun, ?_, effect_pop_sp p s, fun q hq => ?_, effect_f s hkeepsF, fun addr => ?_,
    retired_effect_advance _ s⟩
  · rw [State.advance_pair, effect, State.pair_setPair_of_ne_af _ _ (pairQQ_ne_af hp), State.pop16_val, join_toNat]
  · rw [State.advance_reg]
    exact (State.setPair_reg_other_of_qq _ p _ hq).trans (State.setSP_reg s _ q)
  · exact State.setPair_read8 s.pop16.2 p.pair _ addr

/-- Settles O44: the low byte popped goes to F through the mask, the high byte to A. -/
theorem popAfMasksF : Obligations.PopAfMasksF := by
  intro i s hi
  have hf : (effect (.pop .af) s).f = maskF (s.read8 s.sp) :=
    congrArg maskF (loByte_join (s.read8 (s.sp + 1)) (s.read8 s.sp))
  refine ⟨_, exec_of_form i _ s hi nofun, hiByte_join _ _, hf, flagsAre_of_masked hf, ?_, fun q hq => ?_, fun _ => rfl,
    retired_effect_advance _ s⟩
  · rw [State.advance_sp, effect_pop_sp]
  · rw [State.advance_reg]
    exact (State.setPair_reg_other_of_qq _ .af _ hq).trans (State.setSP_reg s _ q)

/-- Settles O45: the pop reads the word pushed, so the pair popped is that word, masked if it is AF (C4). -/
theorem pushThenPopRestores : Obligations.PushThenPopRestores := by
  intro i j p q s hi hj
  have hpopped : ((s.push16 (s.pair p.pair)).advance (.push p)).pop16.1 = s.pair p.pair := by
    rw [State.advance_pop16_val, State.pop16_push16_val]
  have haf : q = .af → (effect (.pop q) ((s.push16 (s.pair p.pair)).advance (.push p))).pair .af =
      s.pair p.pair &&& 0xFFF0#16 := by
    rintro rfl
    rw [effect, hpopped]
    exact State.pair_setPair_af _ _
  refine ⟨_, _, exec_of_form i _ s hi nofun, exec_of_form j _ _ hj nofun, ?_, fun hq => ?_, haf, ?_⟩
  · calc _ = s.sp - 1 - 1 + 2 := effect_pop_sp q _
      _ = s.sp := by bv_omega
  · rw [State.advance_pair, effect, effect, State.pair_setPair_of_ne_af _ _ (pairQQ_ne_af hq), hpopped]
  · rintro rfl hq hlow
    exact (haf hq).trans (State.pair_af_masked hlow)

/-- Settles O46: SP takes the join of H and L. -/
theorem loadSpFromHL : Obligations.LoadSpFromHL := by
  intro i s hi
  refine ⟨_, exec_of_form i _ s hi nofun, join_toNat s.h s.l, fun q _ => ?_, rfl, fun _ => rfl, retired_effect_advance _ s⟩
  rw [State.advance_reg]
  exact State.setSP_reg s _ q

/-- Settles O47: the sum is signed, the flags are those of the unsigned low bytes. -/
theorem loadHLFromSpPlusOffset : Obligations.LoadHLFromSpPlusOffset := by
  intro i e s hi
  have hhl : (effect (.ldHLSPE e) s).pair .hl = s.spPlus e := State.pair_setPair_of_ne_af s (s.spPlus e) (p := .hl) nofun
  have hflags : FlagsAre (effect (.ldHLSPE e) s) false false (decide (s.sp.toNat % 16 + e.toNat % 16 > 0xF))
      (decide (s.sp.toNat % 256 + e.toNat > 0xFF)) := by
    rw [← lowNibble_loByte, ← loByte_toNat]
    exact flagsAre_setFlags _ (spOffsetFlags s.sp e)
  refine ⟨_, exec_of_form i _ s hi nofun, ?_, hflags, rfl, fun q hq => ?_, fun _ => rfl, retired_effect_advance _ s⟩
  · rw [State.advance_pair, hhl, State.spPlus_toNat]
  · rw [State.advance_reg]
    exact (State.setFlags_reg _ _ q).trans (State.setPair_reg_other s .hl _ hq)

end Sys2Proof.Machine
end

-- Proofs, family 42_alu_8bit: the rules about the ALU.
section
/-! What an addition and a subtraction give as exact integers, and what an ALU operation leaves: PC moves on, A and F take the
result and its flags, nothing else changes. -/

namespace Sys2Proof.Machine

/-! ### Addition and subtraction, as bytes and as numbers (R191 to R194, R210) -/

section Arithmetic
variable (a b : Byte) (cin : Bool)

theorem aluAdd_result_toNat : (aluAdd a b cin).result.toNat = (a.toNat + b.toNat + cin.toNat) % 256 :=
  BitVec.toNat_ofNat _ _

theorem aluSub_result_toNat :
    ((aluSub a b cin).result.toNat : Int) = ((a.toNat : Int) - b.toNat - cin.toNat) % 256 := by
  rw [aluSub, BitVec.toNat_ofInt]
  omega

/-- ADD's result as a sum of bytes. -/
theorem aluAdd_false_result : (aluAdd a b false).result = a + b := by
  apply BitVec.eq_of_toNat_eq
  rw [aluAdd_result_toNat, BitVec.toNat_add]
  rfl

/-- SUB's result as a difference of bytes. -/
theorem aluSub_false_result : (aluSub a b false).result = a - b := by
  have h := aluSub_result_toNat a b false
  rw [Bool.toNat_false] at h
  bv_omega

/-- A byte is zero exactly if its number is. -/
theorem byte_beq_zero (v : Byte) : (v == 0#8) = decide (v.toNat = 0) := by
  rw [beq_eq_decide]
  exact decide_eq_decide.2 BitVec.toNat_eq

theorem aluAdd_z : (aluAdd a b cin).flags.z = decide ((a.toNat + b.toNat + cin.toNat) % 256 = 0) := by
  rw [← aluAdd_result_toNat]
  exact byte_beq_zero _

theorem aluSub_z : (aluSub a b cin).flags.z = decide (((a.toNat : Int) - b.toNat - cin.toNat) % 256 = 0) := by
  rw [← aluSub_result_toNat]
  exact (byte_beq_zero _).trans (decide_eq_decide.2 Int.natCast_eq_zero.symm)

/-- A byte less itself is less than zero by the borrow: the borrow alone decides the result and every flag but N (R211). -/
theorem aluSub_self : aluSub a a cin = ⟨if cin then 0xFF else 0x00, ⟨!cin, true, cin, cin⟩⟩ := by
  cases cin <;> simp [aluSub]

end Arithmetic

/-! ### What F shows after an addition or a subtraction (R191 to R194) -/

/-- F, all eight bits, decides what its flags are. -/
theorem flagsAre_of_toByte {t : State} {fl : Flags} (h : t.f = fl.toByte) : FlagsAre t fl.z fl.n fl.h fl.c := by
  simpa only [FlagsAre, State.flag, State.setFlags_f, h] using flagsAre_setFlags t fl

section FlagsShown
variable {t : State} {a b : Byte} {cin : Bool}

theorem flagsAre_of_aluAdd (h : t.f = (aluAdd a b cin).flags.toByte) :
    FlagsAre t (decide ((a.toNat + b.toNat + cin.toNat) % 256 = 0)) false
      (decide (a.toNat % 16 + b.toNat % 16 + cin.toNat > 0xF)) (decide (a.toNat + b.toNat + cin.toNat > 0xFF)) := by
  rw [← aluAdd_z]
  exact flagsAre_of_toByte h

theorem flagsAre_of_aluSub (h : t.f = (aluSub a b cin).flags.toByte) :
    FlagsAre t (decide (((a.toNat : Int) - b.toNat - cin.toNat) % 256 = 0)) true
      (decide (a.toNat % 16 < b.toNat % 16 + cin.toNat)) (decide (a.toNat < b.toNat + cin.toNat)) := by
  rw [← aluSub_z]
  exact flagsAre_of_toByte h

/-- The flags of SUB and CP, which borrow nothing in. -/
theorem flagsAre_of_aluSub_false (h : t.f = (aluSub a b false).flags.toByte) :
    FlagsAre t (decide (((a.toNat : Int) - b.toNat) % 256 = 0)) true (decide (a.toNat % 16 < b.toNat % 16))
      (decide (a.toNat < b.toNat)) := by
  have hflags := flagsAre_of_aluSub h
  rwa [Bool.toNat_false, Int.natCast_zero, sub_zero] at hflags

end FlagsShown

/-! ### An ALU operation on the state (R190) -/

/-- An ALU instruction in any of its forms is the ALU's effect with its second operand, then PC. -/
theorem exec_alu {op : AluOp} {i : Instr} {s : State} {b : Byte} {len : Nat} (h : AluOperand op i s b len) :
    ∃ fm : Form, fm.length = len ∧ exec i s = .next ((s.alu op b).advance fm) := by
  obtain ⟨r, hi, rfl, rfl⟩ | ⟨hi, rfl, rfl⟩ | ⟨hi, rfl⟩ := h
  · exact ⟨_, rfl, exec_of_form i _ s hi nofun⟩
  · exact ⟨_, rfl, exec_of_form i _ s hi nofun⟩
  · exact ⟨_, rfl, exec_of_form i _ s hi nofun⟩

section Alu
variable (s : State) (op : AluOp) (b : Byte)

/-- All that an ALU instruction leaves alone, A and F apart. -/
theorem alu_advance_frame (fm : Form) :
    SameRegsExcept [.a] s ((s.alu op b).advance fm) ∧ SameSP s ((s.alu op b).advance fm) ∧
      SameMemory s ((s.alu op b).advance fm) ∧ Retired fm.length s ((s.alu op b).advance fm) := by
  refine ⟨fun q hq => ?_, alu_sp s op b, alu_read8 s op b, ?_, alu_mcycles s op b⟩
  · rw [State.advance_reg]
    exact alu_reg_other s op b q (List.ne_of_not_mem_cons hq)
  · rw [State.advance_pc, alu_pc]

theorem storeAlu_f (r : AluResult) : (s.storeAlu r).f = r.flags.toByte := State.setFlags_f _ r.flags

/-- CP stores no result, so it changes no register a field names (R207). -/
theorem alu_cp_reg (q : Reg8) : (s.alu .cp b).reg q = s.reg q := State.setFlags_reg s _ q

/-- Where the operation stores its result, Z says that A is zero (R191). -/
theorem alu_flag_z (h : op ≠ .cp) : (s.alu op b).flag .z = true ↔ (s.alu op b).a = 0 := by
  cases op with
  | add | adc | sub | sbc =>
    rw [State.alu, State.flag, storeAlu_f, toByte_z]
    exact beq_iff_eq
  | cp => exact absurd rfl h

/-- For CP, Z says that the byte SUB would have stored is zero (R191, R207). -/
theorem alu_cp_flag_z : (s.alu .cp b).flag .z = true ↔ s.a - b = 0 := by
  rw [← aluSub_false_result, State.alu, State.flag, State.setFlags_f, toByte_z]
  exact beq_iff_eq

/-- N says that the operation subtracts (R192). -/
theorem alu_flag_n : (s.alu op b).flag .n = true ↔ op = .sub ∨ op = .sbc ∨ op = .cp := by
  cases op with
  | add | adc => simp [State.alu, State.flag, storeAlu_f, aluAdd]
  | sub | sbc => simp [State.alu, State.flag, storeAlu_f, aluSub]
  | cp => simp [State.alu, State.flag, aluSub]

theorem alu_cp_f : (s.alu .cp b).f = (s.alu .sub b).f := rfl

variable {s}

/-- With no carry in, ADC is ADD. -/
theorem alu_adc_of_carry_clear (h : s.flag .c = false) : s.alu .adc b = s.alu .add b := by
  rw [State.alu, State.alu, h]

/-- With no borrow in, SBC is SUB. -/
theorem alu_sbc_of_carry_clear (h : s.flag .c = false) : s.alu .sbc b = s.alu .sub b := by
  rw [State.alu, State.alu, h]

end Alu

end Sys2Proof.Machine
end

-- Proofs, family 42_alu_8bit: the obligations.
section
/-! The statements of the family 42_alu_8bit.md, assembled from the rules above: each instruction is its ALU operation, then PC. -/

namespace Sys2Proof.Machine

/-- Settles O48: an addition with no carry in. -/
theorem addResultAndFlags : Obligations.AddResultAndFlags := by
  intro i b len s h
  obtain ⟨fm, rfl, hx⟩ := exec_alu h
  exact ⟨_, hx, aluAdd_result_toNat s.a b false, flagsAre_of_aluAdd (storeAlu_f s _), alu_advance_frame s .add b fm⟩

/-- Settles O49: an addition that takes the C flag of before. -/
theorem adcResultAndFlags : Obligations.AdcResultAndFlags := by
  intro i b len s h
  obtain ⟨fm, rfl, hx⟩ := exec_alu h
  exact ⟨_, hx, aluAdd_result_toNat s.a b _, flagsAre_of_aluAdd (storeAlu_f s _), alu_advance_frame s .adc b fm⟩

/-- Settles O50: a subtraction with no borrow in. -/
theorem subResultAndFlags : Obligations.SubResultAndFlags := by
  intro i b len s h
  obtain ⟨fm, rfl, hx⟩ := exec_alu h
  refine ⟨_, hx, ?_, flagsAre_of_aluSub_false (storeAlu_f s _), alu_advance_frame s .sub b fm⟩
  exact (aluSub_result_toNat s.a b false).trans (congrArg (· % 256) (sub_zero _))

/-- Settles O51: a subtraction that takes the C flag of before. -/
theorem sbcResultAndFlags : Obligations.SbcResultAndFlags := by
  intro i b len s h
  obtain ⟨fm, rfl, hx⟩ := exec_alu h
  exact ⟨_, hx, aluSub_result_toNat s.a b _, flagsAre_of_aluSub (storeAlu_f s _), alu_advance_frame s .sbc b fm⟩

/-- Settles O52: the flags of a subtraction, and no register written. -/
theorem cpFlagsOnly : Obligations.CpFlagsOnly := by
  intro i b len s h
  obtain ⟨fm, rfl, hx⟩ := exec_alu h
  obtain ⟨-, hrest⟩ := alu_advance_frame s .cp b fm
  exact ⟨_, hx, rfl, flagsAre_of_aluSub_false (State.setFlags_f s _), fun q _ => (State.advance_reg _ fm q).trans (alu_cp_reg s b q), hrest⟩

/-- Settles O53: Z by the byte stored, or by the one CP does not store; N by the operation. -/
theorem aluZeroAndSubtractFlags : Obligations.AluZeroAndSubtractFlags := by
  intro op i b len s h
  obtain ⟨fm, -, hx⟩ := exec_alu h
  refine ⟨_, hx, alu_flag_z s op b, ?_, alu_flag_n s op b⟩
  rintro rfl
  exact alu_cp_flag_z s b

/-- Settles O54: CP computes SUB's flags; with the C flag clear the operations with carry are those without. -/
theorem cpIsSubWithoutTheStore : Obligations.CpIsSubWithoutTheStore := by
  intro i j b k len s
  refine ⟨fun hi hj => ?_, fun hi hj hc => ?_, fun hi hj hc => ?_⟩
  all_goals
    obtain ⟨_, -, hx⟩ := exec_alu hi
    obtain ⟨_, -, hy⟩ := exec_alu hj
  · exact ⟨_, _, hx, hy, alu_cp_f s b, rfl⟩
  · rw [alu_adc_of_carry_clear b hc] at hy
    exact ⟨_, _, hx, hy, rfl, rfl⟩
  · rw [alu_sbc_of_carry_clear b hc] at hy
    exact ⟨_, _, hx, hy, rfl, rfl⟩

/-- Settles O55: `aluSub_self` with no borrow for SUB and CP, with the C flag for SBC; ADD is a sum of bytes. -/
theorem arithmeticOfAWithItself : Obligations.ArithmeticOfAWithItself := by
  intro s
  have hexec : ∀ (op : AluOp) (i : Instr), i.form = .aluR op .a →
      exec i s = .next ((s.alu op s.a).advance (.aluR op .a)) := fun op i hi => exec_of_form i _ s hi nofun
  refine ⟨⟨_, hexec .sub _ rfl, ?_, ?_⟩, ⟨_, hexec .cp _ rfl, rfl, ?_⟩, ⟨_, hexec .sbc _ rfl, ?_, ?_⟩, ⟨_, hexec .add _ rfl, ?_⟩⟩
  · exact congrArg AluResult.result (aluSub_self s.a false)
  · rw [State.advance_f, State.alu, storeAlu_f, aluSub_self]
    rfl
  · rw [State.advance_f, State.alu, State.setFlags_f, aluSub_self]
    rfl
  · exact congrArg AluResult.result (aluSub_self s.a (s.flag .c))
  · rw [State.advance_f, State.alu, storeAlu_f, aluSub_self]
    cases s.flag .c <;> rfl
  · exact (aluAdd_false_result s.a s.a).trans (two_mul s.a).symm

end Sys2Proof.Machine
end

-- Proofs, family 60_exceptions: the rules about the failing step.
section
/-! When a step fails and when it succeeds, that the counter is carried along, and what one move of the host records. -/

namespace Sys2Proof.Machine

/-! ### Success and failure of a step (R81, R231, R232, R248) -/

/-- The opcode of the instruction at PC is the byte at PC (R80). -/
theorem fetchInstr_opcode (s : State) : (fetchInstr s).1.opcode = s.read8 s.pc := by
  rw [fetchInstr_eq]
  exact decodeOp_opcode _ _ _

/-- The fetch gives INVALID exactly at an empty entry, with the byte it fetched (R87). -/
theorem fetchInstr_eq_invalid {s : State} {op : Byte} :
    (fetchInstr s).1 = .invalid op ↔ op = s.read8 s.pc ∧ s.read8 s.pc ∈ emptyEntries := by
  constructor
  · intro h
    obtain rfl : s.read8 s.pc = op := by
      rw [← fetchInstr_opcode, h]
      rfl
    rw [fetchInstr_eq] at h
    exact ⟨rfl, (decodeOp_eq_invalid _ _ _).1 h⟩
  · rintro ⟨rfl, h⟩
    rw [fetchInstr_eq]
    exact (decodeOp_eq_invalid _ _ _).2 h

/-- All that a step can fail with: Invalid Opcode, at an empty entry (R231, R232, R248). -/
theorem stepWith_eq_fault {mc : CycleTable} {s : State} {r : Fault} :
    stepWith mc s = .fault r ↔
      s.read8 s.pc ∈ emptyEntries ∧ r = .invalidOpcode (s.read8 s.pc) s.pc s.afterInvalidOpcode := by
  rw [stepWith_fault, exec_fault]
  constructor
  · rintro ⟨op, hop, rfl⟩
    obtain ⟨rfl, hempty⟩ := fetchInstr_eq_invalid.1 hop
    exact ⟨hempty, rfl⟩
  · rintro ⟨hempty, rfl⟩
    exact ⟨_, fetchInstr_eq_invalid.2 ⟨rfl, hempty⟩, rfl⟩

theorem stepWith_of_empty (mc : CycleTable) {s : State} (h : s.read8 s.pc ∈ emptyEntries) :
    stepWith mc s = .fault (.invalidOpcode (s.read8 s.pc) s.pc s.afterInvalidOpcode) :=
  stepWith_eq_fault.2 ⟨h, rfl⟩

/-- A step succeeds exactly at a byte with an entry (R81, R248). -/
theorem exists_stepWith_next {mc : CycleTable} {s : State} :
    (∃ t, stepWith mc s = .next t) ↔ s.read8 s.pc ∉ emptyEntries := by
  constructor
  · rintro ⟨t, ht⟩ hempty
    cases ht.symm.trans (stepWith_of_empty mc hempty)
  · intro hentry
    have hdefined : ∀ op, (fetchInstr s).1.form ≠ .invalid op := fun op hform =>
      hentry (fetchInstr_eq_invalid.1 ((form_eq_invalid _ op).1 hform)).2
    exact ⟨_, stepWith_of_exec rfl (exec_of_form _ _ s rfl hdefined)⟩

/-! ### The counter is carried along (R33, R245) -/

/-- The state with another counter. -/
def State.withCounter (s : State) (m : Counter) : State := { s with mcycles := m }

/-- An effect neither reads nor writes the counter: `effect_withPcCounter`, with PC as it is. -/
theorem effect_withCounter (fm : Form) (s : State) (m : Counter) :
    effect fm (s.withCounter m) = (effect fm s).withCounter m := by
  have h : effect fm (s.withCounter m) = (effect fm s).withPcCounter s.pc m := effect_withPcCounter fm s s.pc m
  rw [h, State.withPcCounter, ← effect_pc fm s]
  rfl

/-- An instruction does the same whatever the counter holds, and carries it along. -/
theorem exec_withCounter {i : Instr} {s t : State} (m : Counter) (h : exec i s = .next t) :
    exec i (s.withCounter m) = .next (t.withCounter m) := by
  obtain ⟨hdefined, rfl⟩ := (exec_next i s t).1 h
  rw [exec_of_form i _ _ rfl hdefined, effect_withCounter]
  rfl

/-- A fetch reads PC and memory only. -/
theorem fetchInstr_withCounter (s : State) (m : Counter) : (fetchInstr (s.withCounter m)).1 = (fetchInstr s).1 := by
  rw [fetchInstr_eq, fetchInstr_eq]
  rfl

/-! ### What a move of the host records (R236, R237) -/

section Moves
variable {mc : CycleTable} {s t : State} {fs : List (Byte × Word)}

/-- A step that succeeds leaves the record as it was. -/
theorem hostMove_step_of_next (h : stepWith mc s = .next t) : hostMove mc ⟨s, fs⟩ .step = ⟨t, fs⟩ := by
  simp only [hostMove, h]

/-- A step at an empty entry appends its fault to the record. -/
theorem hostMove_step_of_empty (h : s.read8 s.pc ∈ emptyEntries) :
    hostMove mc ⟨s, fs⟩ .step = ⟨s.afterInvalidOpcode, fs ++ [(s.read8 s.pc, s.pc)]⟩ := by
  simp only [hostMove, stepWith_of_empty mc h]

end Moves

/-- One move removes nothing from the record. -/
theorem faults_prefix_hostMove (mc : CycleTable) (o : Observation) (mv : HostMove) :
    o.faults <+: (hostMove mc o mv).faults := by
  obtain ⟨s, fs⟩ := o
  cases mv with
  | write addr v => exact List.prefix_refl fs
  | step =>
    by_cases h : s.read8 s.pc ∈ emptyEntries
    · rw [hostMove_step_of_empty h]
      exact List.prefix_append fs _
    · obtain ⟨t, ht⟩ := exists_stepWith_next (mc := mc).2 h
      rw [hostMove_step_of_next ht]

/-- The record of a run only grows. -/
theorem faults_prefix_hostRun (mc : CycleTable) (moves : List HostMove) (o : Observation) :
    o.faults <+: (hostRun mc moves o).faults := by
  induction moves generalizing o with
  | nil => exact List.prefix_refl _
  | cons mv rest ih => exact (faults_prefix_hostMove mc o mv).trans (ih (hostMove mc o mv))

end Sys2Proof.Machine
end

-- Proofs, family 60_exceptions: the obligations.
section
/-! The statements of the family 60_exceptions.md, assembled from the rules above. -/

namespace Sys2Proof.Machine

/-- Settles O20: an empty entry fails (`stepWith_of_empty`), any other byte succeeds (`exists_stepWith_next`). -/
theorem stepHasTwoKindsOfResult : Obligations.StepHasTwoKindsOfResult := by
  intro mc s
  refine ⟨?_, exists_stepWith_next⟩
  by_cases h : s.read8 s.pc ∈ emptyEntries
  · exact .inr ⟨_, _, _, stepWith_of_empty mc h⟩
  · exact .inl (exists_stepWith_next.2 h)

/-- Settles O21: `stepWith_of_empty` for the step, `exec_empty` for the instruction. -/
theorem invalidOpcodeCarriesByteAndAddress : Obligations.InvalidOpcodeCarriesByteAndAddress :=
  ⟨fun mc _ h => ⟨_, stepWith_of_empty mc h⟩, fun s op => ⟨_, exec_empty op s⟩⟩

/-- Settles O22: `stepWith_eq_fault` gives the fault in full, and the next fetch is at the PC it carries. -/
theorem stateAfterInvalidOpcode : Obligations.StateAfterInvalidOpcode := by
  intro mc s t op addr h
  obtain ⟨-, hfault⟩ := stepWith_eq_fault.1 h
  cases hfault
  exact ⟨rfl, rfl, rfl, busTrace_of_fault h, busTrace_head _⟩

/-- Settles O25: the event's mnemonic is missing exactly at an empty entry, and there alone the step fails. -/
theorem traceEventDescribesTheStep : Obligations.TraceEventDescribesTheStep := by
  intro mc s
  refine ⟨rfl, rfl, ?_, ?_, ?_⟩
  · rw [fetchInstr_eq]
    exact (decodeOp_mnemonic _ _ _).symm
  · show (opcodeMnemonic (s.read8 s.pc)).isSome = true ↔ _
    rw [Option.isSome_iff_ne_none, Ne, opcodeMnemonic_eq_none, exists_stepWith_next]
  · refine (opcodeMnemonic_eq_none _).trans ⟨fun h => ⟨_, stepWith_of_empty mc h⟩, ?_⟩
    rintro ⟨r, hr⟩
    exact (stepWith_eq_fault.1 hr).1

/-- Settles O28: fetch, effect and the byte at PC are the same under another counter; only the cycles added last differ. -/
theorem counterIsNotObservable : Obligations.CounterIsNotObservable := by
  refine ⟨fun _ => rfl, fun i s t m h => ⟨?_, exec_withCounter m h⟩, fun mc mc' s t m h => ?_⟩
  · obtain ⟨-, rfl⟩ := (exec_next i s t).1 h
    exact effect_mcycles i.form s
  · obtain ⟨u, hu, rfl⟩ := (stepWith_next mc s t).1 h
    exact stepWith_of_exec (fetchInstr_withCounter s m) (exec_withCounter m hu)

/-- Settles O57: one rule for each kind of move, and over a run an induction on the moves. -/
theorem faultsStayRecordedInARun : Obligations.FaultsStayRecordedInARun := by
  refine ⟨fun _ _ _ h => hostMove_step_of_empty h, fun mc s fs h => ?_, fun _ _ _ _ _ => rfl, faults_prefix_hostRun⟩
  obtain ⟨t, ht⟩ := exists_stepWith_next (mc := mc).2 h
  exact ⟨t, ht, hostMove_step_of_next ht⟩

/-- Settles O56: the views are those of the state's own bytes, as numbers by `join_toNat`. -/
theorem getStateGivesRegistersAndPairViews : Obligations.GetStateGivesRegistersAndPairViews := by
  intro s t
  refine ⟨⟨rfl, rfl, rfl, rfl, rfl, rfl, rfl, rfl, rfl, rfl⟩, fun p => ?_, join_toNat _ _, join_toNat _ _, join_toNat _ _,
    join_toNat _ _, fun h => ?_⟩
  · cases p <;> rfl
  · obtain ⟨⟩ := t
    cases h
    rfl

end Sys2Proof.Machine
end

-- Proofs, family 70_reset_and_hazards: the rules about the cycles of a run.
section
/-! The default count of an opcode byte, what a run of several steps is made of, and what it adds to the counter. -/

namespace Sys2Proof

/-! ### The default count of an opcode byte (R98) -/

@[simp] theorem Form.clear_defaultCycles (fm : Form) : fm.clear.defaultCycles = fm.defaultCycles := by cases fm <;> rfl

theorem decodeOp_defaultCycles (op b1 b2 : Byte) : (decodeOp op b1 b2).form.defaultCycles = defaultCycles op := by
  rw [defaultCycles, ← decodeOp_clear op b1 b2, Form.clear_defaultCycles]

end Sys2Proof

namespace Sys2Proof.Machine

/-! ### A run is its first step, then the run from there -/

/-- All that one step more of a run can end in with a next state: the step succeeds, and so does the run from there. -/
theorem core_run_succ_next {M : Host.Core} {k : Nat} {s t : M.State} :
    M.run (k + 1) s = .next t ↔ ∃ u, M.step s = .next u ∧ M.run k u = .next t := by
  rw [Host.Core.run]
  cases M.step s <;> simp

theorem cyclesOfRun_succ {mc : CycleTable} {s u : State} (k : Nat) (h : stepWith mc s = .next u) :
    cyclesOfRun mc (k + 1) s = mc (s.read8 s.pc) + cyclesOfRun mc k u := by
  rw [cyclesOfRun, h]

/-! ### The counter over a step and over a run (R33, R80, R269) -/

/-- The effect leaves the counter alone; the step adds the count of the opcode byte at PC. -/
theorem stepWith_mcycles {mc : CycleTable} {s t : State} (h : stepWith mc s = .next t) :
    t.mcycles = s.mcycles + BitVec.ofNat 64 (mc (s.read8 s.pc)) := by
  obtain ⟨u, hu, rfl⟩ := (stepWith_next mc s t).1 h
  obtain ⟨-, rfl⟩ := (exec_next _ s u).1 hu
  rw [State.addCycles_mcycles, State.advance_mcycles, effect_mcycles]

/-- The counts add up modulo 2^64 (R33). -/
theorem launch_run_mcycles {mc : CycleTable} {mem0 : Memory} {k : Nat} {s t : State}
    (h : (launch mc mem0).run k s = .next t) : t.mcycles = s.mcycles + BitVec.ofNat 64 (cyclesOfRun mc k s) := by
  induction k generalizing s with
  | zero =>
    cases h
    exact (BitVec.add_zero _).symm
  | succ k ih =>
    obtain ⟨u, hstep, hrest⟩ := core_run_succ_next.1 h
    rw [ih hrest, stepWith_mcycles hstep, cyclesOfRun_succ k hstep, BitVec.ofNat_add, BitVec.add_assoc]

end Sys2Proof.Machine
end

-- Proofs, family 70_reset_and_hazards: the obligations.
section
/-! The statement of the family 70_reset_and_hazards.md, assembled from the rules above. -/

namespace Sys2Proof.Machine

/-- Settles O24: `launch_run_mcycles`, an induction on the number of steps, and `decodeOp_defaultCycles` for the default table. -/
theorem runAddsTheCyclesOfItsOpcodes : Obligations.RunAddsTheCyclesOfItsOpcodes :=
  ⟨fun _ _ _ _ _ h => launch_run_mcycles h, decodeOp_defaultCycles⟩

end Sys2Proof.Machine
end
